-- ==== Sys2Proof/Word.lean ====
section
/-! DEFINITION. The bit-level types of the part: what the manual treats as bits or as counts that wrap.
Quantities in fixed units (lean, speeds, torques, counters that saturate) are plain `Int` and `Nat`. -/

namespace Sys2Proof

/-- A data byte of a frame. -/
abbrev Byte := BitVec 8

/-- A two-byte operand or a 16-bit captured value. -/
abbrev Half := BitVec 16

/-- A CAN identifier of 11 bits (00_scope, Place in the vehicle). -/
abbrev Ident := BitVec 11

/-- A count of the time base or a stamp, in milliseconds modulo 65536 (R1). -/
abbrev Stamp := BitVec 16

/-- An alive counter, modulo 16 (00_scope, Counters). -/
abbrev Alive := BitVec 4

/-- The age of a stamp: the difference between the present count and the stamp modulo 65536 (R1). -/
def ageOf (now stamp : Stamp) : Nat := (now - stamp).toNat

end Sys2Proof
end

