-- ==== Sys2Proof/Config.lean ====
section
/-! DEFINITION. What the spec leaves free. The only open value of this part is the order in which the fault unit takes
the hand-offs that reach it together inside one event (R159: "are taken in either order"). -/

namespace Sys2Proof

/-- The `n`-th free choice. It has no body, so no proof can see which choice is made: a claim about a machine holds
for every order that R159 allows. FREE VALUE, log 7, safe. -/
opaque Config.freePick : Nat → Nat

end Sys2Proof
end

