-- ==== Sys2Proof/Syntax.lean ====
section
/-! DEFINITION. The commands of the part: one constructor of `Instr` per row of spec/opcode_table.json, with the
operands its rule names. -/

namespace Sys2Proof

/-- The two ports (00_scope, Place in the vehicle). -/
inductive PortId where
  | a
  | b
deriving DecidableEq, Repr

/-- The port that frames from this one are forwarded to (R25). -/
def PortId.other : PortId → PortId
  | .a => .b
  | .b => .a

/-- The five consuming classes, each with one stream record (01, section 1.7), in their listed order. -/
inductive StreamId where
  | inertial
  | wheelFront
  | wheelRear
  | torqueRequest
  | riderSelect
deriving DecidableEq, Repr

/-- An alert level 0 to 3 (R168). -/
abbrev Level := Fin 4

/-- The identifier a command frame came in on: dash or service (R175). -/
inductive Sender where
  | dash
  | service
deriving DecidableEq, Repr

/-- A CAN frame as the part sees it: an identifier and 0 to 8 data bytes (00_scope, Place in the vehicle). The
length is the number of data bytes. -/
structure Frame where
  ident : Ident
  data : List Byte
deriving DecidableEq, Repr

/-- The commands. Operands of the service and dash commands are the raw bytes of their frame (R189): range checks are
the owners', so every byte is a well-formed operand. -/
inductive Instr where
  /-- POWER_ON_RESET, R29. -/
  | powerOnReset
  /-- RECEIVED_FRAME, R140: a frame received on a port from its segment. -/
  | receivedFrame (port : PortId) (frame : Frame)
  /-- POLICING_WINDOW_EXPIRY, R9. -/
  | policingWindowExpiry
  /-- STALE_EXPIRY, R18. -/
  | staleExpiry (stream : StreamId)
  /-- LOST_EXPIRY, R19. -/
  | lostExpiry (stream : StreamId)
  /-- JOB_START, R33. -/
  | jobStart
  /-- LEAN_COMPLETION, R49. -/
  | leanCompletion
  /-- CEILING_COMPLETION, R74. -/
  | ceilingCompletion
  /-- SEAL_STEP_COMPLETION, R127. -/
  | sealStepCompletion
  /-- HOLD_EXPIRY, R90. -/
  | holdExpiry
  /-- START_TIMER_EXPIRY, R116. -/
  | startTimerExpiry
  /-- TRANSMIT_ARBITER_CHOICE, R147. -/
  | transmitArbiterChoice (port : PortId)
  /-- TRANSMIT_SUCCESS, R150: the attempt of the frame in the slot succeeds. -/
  | transmitSuccess (port : PortId)
  /-- TRANSMIT_FAILURE, R151: the attempt of the frame in the slot fails. -/
  | transmitFailure (port : PortId)
  /-- RECOVERY_TIMER_EXPIRY, R154. -/
  | recoveryTimerExpiry (port : PortId)
  /-- REPEAT_TIMER_EXPIRY, R169. -/
  | repeatTimerExpiry (level : Level)
  /-- WRITE_PAGE_ENTRY, R123. -/
  | writePageEntry (tag page table index : Byte) (value : Half)
  /-- SEAL_PAGE, R125. -/
  | sealPage (tag page : Byte)
  /-- UNSEAL_PAGE, R129. -/
  | unsealPage (tag page : Byte)
  /-- MAP_PAGE, R131. -/
  | mapPage (tag slot expected new : Byte)
  /-- WRITE_ROUTE_FIELD, R4. -/
  | writeRouteField (tag entry field : Byte) (value : Half)
  /-- ENABLE_ROUTE, R5. -/
  | enableRoute (tag entry : Byte)
  /-- DISABLE_ROUTE, R6. -/
  | disableRoute (tag entry : Byte)
  /-- WRITE_CHASSIS_SETTING, R133. -/
  | writeChassisSetting (tag item : Byte) (value : Half)
  /-- RESTART_GOVERNOR, R184. -/
  | restartGovernor (tag : Byte)
  /-- MONITOR_ON_OFF, R97. -/
  | monitorOnOff (tag value : Byte)
  /-- CLEAR_CAPTURE, R166. -/
  | clearCapture (tag : Byte)
  /-- ACK_ALERT, R163; a dash or a service command. -/
  | ackAlert (sender : Sender) (tag cls : Byte)
  /-- READ_PAGE_ENTRY, R124. -/
  | readPageEntry (tag page table index : Byte)
  /-- READ_ROUTE_FIELD, R183. -/
  | readRouteField (tag entry field : Byte)
  /-- READ_CHASSIS_SETTING, R133. -/
  | readChassisSetting (tag item : Byte)
  /-- READ_STATE, R181; a dash or a service command. -/
  | readState (sender : Sender) (tag item selector part : Byte)
  /-- READ_COUNTER, R182. -/
  | readCounter (tag block selector counter : Byte)
  /-- READ_CAPTURE, R183; a dash or a service command. -/
  | readCapture (sender : Sender) (tag : Byte)
  /-- TIME_BASE_ADVANCE, R1. -/
  | timeBaseAdvance
deriving DecidableEq, Repr

end Sys2Proof
end

