-- ==== Sys2Proof/WellFormed.lean ====
section
/-! DEFINITION. Which commands are well formed. The operand types rule out everything else that could be malformed, so
the one check left is the length of a frame. -/

namespace Sys2Proof

/-- A frame has a length of 0 to 8 data bytes (00_scope, Place in the vehicle; 08, section 8.1). -/
abbrev Frame.WellFormed (f : Frame) : Prop := f.data.length ≤ 8

/-- A command is well formed when the frame it carries, if any, is. -/
def Instr.wellFormed : Instr → Bool
  | .receivedFrame _ f => decide f.WellFormed
  | .powerOnReset => true
  | .policingWindowExpiry => true
  | .staleExpiry _ => true
  | .lostExpiry _ => true
  | .jobStart => true
  | .leanCompletion => true
  | .ceilingCompletion => true
  | .sealStepCompletion => true
  | .holdExpiry => true
  | .startTimerExpiry => true
  | .transmitArbiterChoice _ => true
  | .transmitSuccess _ => true
  | .transmitFailure _ => true
  | .recoveryTimerExpiry _ => true
  | .repeatTimerExpiry _ => true
  | .writePageEntry _ _ _ _ _ => true
  | .sealPage _ _ => true
  | .unsealPage _ _ => true
  | .mapPage _ _ _ _ => true
  | .writeRouteField _ _ _ _ => true
  | .enableRoute _ _ => true
  | .disableRoute _ _ => true
  | .writeChassisSetting _ _ _ => true
  | .restartGovernor _ => true
  | .monitorOnOff _ _ => true
  | .clearCapture _ => true
  | .ackAlert _ _ _ => true
  | .readPageEntry _ _ _ _ => true
  | .readRouteField _ _ _ => true
  | .readChassisSetting _ _ => true
  | .readState _ _ _ _ _ => true
  | .readCounter _ _ _ _ => true
  | .readCapture _ _ => true
  | .timeBaseAdvance => true

end Sys2Proof
end

