-- ==== Sys2Proof/Decode.lean ====
section
/-! DEFINITION. No row of spec/opcode_table.json gives bits, so no word spells a command. What the part does decode is a
command frame: its code byte and operand positions (R175, R189). The encoder after it writes a command's frame from the
same table. -/

namespace Sys2Proof

/-- The command a word spells by the table's bits: none, since no row of the table gives bits. -/
def decodeTableWord (_nbits _w : Nat) : Option Instr := none

/-- A two-byte operand, most significant byte first (R186). -/
def halfOf (high low : Byte) : Half := high ++ low

/-- The two bytes of a 16-bit value, most significant first (R186). -/
def bytesOf (v : Half) : List Byte := [v.extractLsb' 8 8, v.extractLsb' 0 8]

/-- The data byte at a position; a byte beyond the frame's length is read as 0 (R175). -/
def dataByte (data : List Byte) (i : Nat) : Byte := data.getD i 0

/-- The command that a code names on an identifier, with its operands at the positions of R189. None when the code
names no command. -/
def commandOf (sender : Sender) (data : List Byte) : Option Instr :=
  let b := dataByte data
  let tag := b 1
  match (b 0).toNat with
  | 0x01 => some (.writePageEntry tag (b 2) (b 3) (b 4) (halfOf (b 5) (b 6)))
  | 0x02 => some (.sealPage tag (b 2))
  | 0x03 => some (.unsealPage tag (b 2))
  | 0x04 => some (.mapPage tag (b 2) (b 3) (b 4))
  | 0x05 => some (.writeRouteField tag (b 2) (b 3) (halfOf (b 4) (b 5)))
  | 0x06 => some (.enableRoute tag (b 2))
  | 0x07 => some (.disableRoute tag (b 2))
  | 0x08 => some (.writeChassisSetting tag (b 2) (halfOf (b 3) (b 4)))
  | 0x09 => some (.restartGovernor tag)
  | 0x0A => some (.monitorOnOff tag (b 2))
  | 0x0B => some (.clearCapture tag)
  | 0x0C => some (.ackAlert sender tag (b 2))
  | 0x10 => some (.readPageEntry tag (b 2) (b 3) (b 4))
  | 0x11 => some (.readRouteField tag (b 2) (b 3))
  | 0x12 => some (.readChassisSetting tag (b 2))
  | 0x13 => some (.readState sender tag (b 2) (b 3) (b 4))
  | 0x14 => some (.readCounter tag (b 2) (b 3) (b 4))
  | 0x15 => some (.readCapture sender tag)
  | _ => none

/-- The data bytes of the frame that carries a command (R189), and none for a row that no command frame carries. -/
def encodeCommand : Instr → Option (List Byte)
  | .writePageEntry tag page table index value => some ([0x01, tag, page, table, index] ++ bytesOf value)
  | .sealPage tag page => some [0x02, tag, page]
  | .unsealPage tag page => some [0x03, tag, page]
  | .mapPage tag slot expected new => some [0x04, tag, slot, expected, new]
  | .writeRouteField tag entry field value => some ([0x05, tag, entry, field] ++ bytesOf value)
  | .enableRoute tag entry => some [0x06, tag, entry]
  | .disableRoute tag entry => some [0x07, tag, entry]
  | .writeChassisSetting tag item value => some ([0x08, tag, item] ++ bytesOf value)
  | .restartGovernor tag => some [0x09, tag]
  | .monitorOnOff tag value => some [0x0A, tag, value]
  | .clearCapture tag => some [0x0B, tag]
  | .ackAlert _ tag cls => some [0x0C, tag, cls]
  | .readPageEntry tag page table index => some [0x10, tag, page, table, index]
  | .readRouteField tag entry field => some [0x11, tag, entry, field]
  | .readChassisSetting tag item => some [0x12, tag, item]
  | .readState _ tag item selector part => some [0x13, tag, item, selector, part]
  | .readCounter tag block selector counter => some [0x14, tag, block, selector, counter]
  | .readCapture _ tag => some [0x15, tag]
  | .powerOnReset => none
  | .receivedFrame _ _ => none
  | .policingWindowExpiry => none
  | .staleExpiry _ => none
  | .lostExpiry _ => none
  | .jobStart => none
  | .leanCompletion => none
  | .ceilingCompletion => none
  | .sealStepCompletion => none
  | .holdExpiry => none
  | .startTimerExpiry => none
  | .transmitArbiterChoice _ => none
  | .transmitSuccess _ => none
  | .transmitFailure _ => none
  | .recoveryTimerExpiry _ => none
  | .repeatTimerExpiry _ => none
  | .timeBaseAdvance => none

/-- The identifier a command comes in on: the one it names for the three dash commands, else the service identifier,
which alone carries the other commands (R176). -/
def Instr.sender : Instr → Sender
  | .ackAlert sender _ _ => sender
  | .readState sender _ _ _ _ => sender
  | .readCapture sender _ => sender
  | _ => .service

end Sys2Proof
end

