-- ==== Sys2Proof/Machine/Types.lean ====
section
/-! DEFINITION. The records that State is made of, block by block, with the names and ranges the chapters give them. -/

namespace Sys2Proof.Machine

/-! ## Time -/

/-- A running timer of the time base: the count it was set from and its setting in milliseconds (R1). -/
structure Timer where
  start : Stamp
  setting : Nat
deriving DecidableEq, Repr

/-! ## Frame classifier (01) -/

/-- The states of a route entry (01, section 1.2). -/
inductive RouteState where
  | free
  | disabled
  | enabled
deriving DecidableEq, Repr

/-- The classes of a route entry, in the order of the route field table. -/
inductive RouteClass where
  | inertial
  | wheelFront
  | wheelRear
  | torqueRequest
  | riderSelect
  | dashCommand
  | serviceCommand
  | pass
deriving DecidableEq, Repr

/-- The forward field, in the order of the route field table. -/
inductive Forward where
  | nowhere
  | otherQ2
  | otherQ0
deriving DecidableEq, Repr

/-- The fields of a route entry (01, route field table). -/
structure RouteFields where
  port : PortId
  ident : Ident
  cls : RouteClass
  forward : Forward
  rewrite : Option Ident
  budget : Nat
  isProtected : Bool
  staleTime : Nat
  lostTime : Nat
  nominalPeriod : Nat
  holdLimit : Nat
deriving DecidableEq, Repr

/-- The eight counters of a route entry (R27), in the order of their table. -/
structure RouteCounts where
  matched : Nat
  overBudget : Nat
  rejects : Nat
  duplicates : Nat
  sequenceErrors : Nat
  accepted : Nat
  clamped : Nat
  forwarded : Nat
deriving DecidableEq, Repr

/-- A route entry: its state, its fields, its policing state (R9) and its counters (R27). -/
structure RouteEntry where
  state : RouteState
  fields : RouteFields
  windowCount : Nat
  droppedMark : Bool
  floodStreak : Nat
  counts : RouteCounts
deriving DecidableEq, Repr

/-- The unknown-identifier counters of a port (R8). -/
structure UnknownCounts where
  dropped : Nat
  forwarded : Nat
deriving DecidableEq, Repr

/-! ## Stream supervisor (01, section 1.7) -/

/-- The stream states, in the order of R186. -/
inductive StreamState where
  | unseen
  | fresh
  | stale
  | lost
  | faulty
deriving DecidableEq, Repr

/-- The values a frame of a consuming class carries, and a stream record holds (01, section 1.7). -/
inductive Values where
  | inertial (roll yaw lateral : Int)
  | speed (v : Nat)
  | torque (request : Nat) (clamped : Bool)
  | selection (mode load : Nat) (traction : Bool)
deriving DecidableEq, Repr

/-- A stream record (01, section 1.7). A stopped timer is absent. -/
structure StreamRecord where
  state : StreamState
  latest : Option Values
  stamp : Stamp
  lastAlive : Option Alive
  stepReference : Option Values
  rejects : Nat
  history : List Bool
  recovery : Nat
  staleTimer : Option Timer
  lostTimer : Option Timer
deriving DecidableEq, Repr

/-! ## Lean estimator (03) -/

/-- An inertial sample: roll rate, yaw rate, lateral acceleration and arrival stamp (R38). -/
structure Sample where
  roll : Int
  yaw : Int
  lateral : Int
  stamp : Stamp
deriving DecidableEq, Repr

/-- The seven counts of the lean estimator (R59), in the order of their table, the report copies last. -/
structure LeanCounts where
  queued : Nat
  overrun : Nat
  flushed : Nat
  referenceUnavailable : Nat
  slideGain : Nat
  fullTake : Nat
  reportCopies : Nat
deriving DecidableEq, Repr

/-- The lean estimator's state (03, table of items). -/
structure LeanState where
  lean : Int
  valid : Bool
  tPrev : Option Stamp
  saturated : Bool
  decimation : Nat
  reportAlive : Alive
  queue : List Sample
  counts : LeanCounts
deriving DecidableEq, Repr

/-! ## Governor control (06) -/

/-- The governor states, in the order of R186. -/
inductive GovState where
  | start
  | govern
  | limp
  | bypass
deriving DecidableEq, Repr

/-- A selection: ride mode 0-3, load 0-2, traction switch (06). -/
structure Selection where
  mode : Nat
  load : Nat
  traction : Bool
deriving DecidableEq, Repr

/-- A committing decision: state E, page G and the new selection (R108, R109). -/
structure Decision where
  state : GovState
  page : Nat
  selection : Selection
deriving DecidableEq, Repr

/-- The START timer (R116). -/
inductive StartTimer where
  | running (start : Stamp)
  | stopped
  | expired
deriving DecidableEq, Repr

/-- The eight counts of governor control (R120), the wanted-change count last. -/
structure GovCounts where
  startEntries : Nat
  governEntries : Nat
  limpEntries : Nat
  bypassEntries : Nat
  falls : Nat
  safePoints : Nat
  selectionApplied : Nat
  wantedChange : Nat
deriving DecidableEq, Repr

/-- Governor control's state (06, table of items). -/
structure Governor where
  state : GovState
  wanted : Selection
  applied : Selection
  appliedPage : Nat
  committing : Option Decision
  withdrawn : Bool
  startTimer : StartTimer
  counts : GovCounts
deriving DecidableEq, Repr

/-! ## Evaluation engine (02) -/

/-- A wheel stream as a job reads it: its state and its latest speed (R35). -/
structure WheelView where
  state : StreamState
  speed : Option Nat
deriving DecidableEq, Repr

/-- The snapshot of a LEAN job (R35). -/
structure LeanSnapshot where
  sample : Sample
  lean : Int
  valid : Bool
  tPrev : Option Stamp
  front : WheelView
  rear : WheelView
  nominalPeriod : Nat
  normalGain : Nat
  slideGain : Nat
  slideThreshold : Nat
deriving DecidableEq, Repr

/-- The snapshot of a CEILING job (R35). The request is the held T_req' and clamped flag, or absent. -/
structure CeilingSnapshot where
  lean : Int
  valid : Bool
  front : WheelView
  rear : WheelView
  inertial : StreamState
  cut : Nat
  published : Nat
  state : GovState
  wanted : Selection
  applied : Selection
  appliedPage : Nat
  request : Option (Nat × Bool)
  frontRadius : List Nat
  rearRadius : List Nat
deriving DecidableEq, Repr

/-- The snapshot of a SEAL_STEP job (R35): the step's table and the two scalars its checks compare (R126). -/
structure SealSnapshot where
  page : Nat
  step : Nat
  entries : List Nat
  hardCeiling : Nat
deriving DecidableEq, Repr

/-- A job with its snapshot. -/
inductive Job where
  | ceiling (snapshot : CeilingSnapshot)
  | lean (snapshot : LeanSnapshot)
  | sealStep (snapshot : SealSnapshot)
deriving DecidableEq, Repr

/-- The running job record (R29): the job and its void mark. -/
structure RunningJob where
  job : Job
  isVoid : Bool
deriving DecidableEq, Repr

/-- The four counters of the engine (R37). -/
structure EngineCounts where
  startedCeiling : Nat
  startedLean : Nat
  startedSeal : Nat
  voids : Nat
deriving DecidableEq, Repr

/-- The engine's state (02, section 2.1). IDLE is the absence of a running job (R29). -/
structure Engine where
  running : Option RunningJob
  ceilingPending : Bool
  sealPending : Bool
  counts : EngineCounts
deriving DecidableEq, Repr

/-! ## Ceiling evaluator (04) -/

/-- The five counts of the ceiling evaluator (R83). -/
structure EvalCounts where
  evaluations : Nat
  slipNotValid : Nat
  cutGrowth : Nat
  riseLimited : Nat
  folded : Nat
deriving DecidableEq, Repr

/-- The ceiling evaluator's state (04, table of items): X, C_pub, S, slip-valid and the three marks. -/
structure Evaluator where
  cut : Nat
  published : Nat
  slip : Int
  slipValid : Bool
  riseLimited : Bool
  pageChanged : Bool
  fold : Bool
  counts : EvalCounts
deriving DecidableEq, Repr

/-! ## Torque forwarder (05) -/

/-- A held request (R84). -/
structure HeldRequest where
  request : Nat
  clamped : Bool
  stamp : Stamp
  route : Nat
  holdLimit : Nat
  outbound : Ident
deriving DecidableEq, Repr

/-- The seven counts of the torque forwarder (R101). -/
structure ForwardCounts where
  entered : Nat
  superseded : Nat
  completionBuilt : Nat
  expiryBuilt : Nat
  intervened : Nat
  restartDiscarded : Nat
  monitor : Nat
deriving DecidableEq, Repr

/-- The torque forwarder's state (05, table of items). The hold timer is absent when stopped, else its age in 0.1 ms. -/
structure Forwarder where
  slot : Option HeldRequest
  holdTimer : Option Nat
  alive : Alive
  monitorOn : Bool
  counts : ForwardCounts
deriving DecidableEq, Repr

/-! ## Page store (07) -/

/-- The page states, in the order of R186. -/
inductive PageState where
  | opened
  | sealing
  | sealed
deriving DecidableEq, Repr

/-- A map page: three rows of 13 entries and eight scalars (R121). -/
structure Page where
  state : PageState
  ceiling : List Nat
  slipTarget : List Nat
  brake : List Nat
  scalars : List Nat
deriving DecidableEq, Repr

/-- The seal record (07, section 7.2): page, step 1 to 4 and the tag of the SEAL PAGE command. -/
structure SealRecord where
  page : Nat
  step : Nat
  tag : Byte
deriving DecidableEq, Repr

/-- A window of the bounds table (R134). -/
structure Window where
  lower : Int
  upper : Int
  maxStep : Option Nat
deriving DecidableEq, Repr

/-- The unknown-identifier actions, in the order of R189. -/
inductive UnknownAction where
  | drop
  | forwardQ2
  | forwardQ0
deriving DecidableEq, Repr

/-- The release types, in the order of R189. -/
inductive ReleaseType where
  | latched
  | follow
deriving DecidableEq, Repr

/-- The alert map's items of one class (R138). -/
structure AlertSetting where
  level : Level
  masked : Bool
  release : ReleaseType
deriving DecidableEq, Repr

/-- The chassis settings (R133 to R138). -/
structure Chassis where
  windows : List Window
  frontRadius : List Nat
  rearRadius : List Nat
  decimation : Nat
  reportToA : Bool
  unknownA : UnknownAction
  unknownB : UnknownAction
  alertMap : List AlertSetting
  vectorBase : Nat
deriving DecidableEq, Repr

/-- The eight counts of the page store (R139). -/
structure StoreCounts where
  pageWrites : Nat
  sealsBegun : Nat
  sealsPassed : Nat
  sealFailures : Nat
  unseals : Nat
  maps : Nat
  mapConflicts : Nat
  chassisWrites : Nat
deriving DecidableEq, Repr

/-- The page store's state. -/
structure PageStore where
  pages : List Page
  sealRecord : Option SealRecord
  pageMap : List Nat
  chassis : Chassis
  counts : StoreCounts
deriving DecidableEq, Repr

/-! ## Link ports (08) -/

/-- The port states, in the order of R186. -/
inductive PortMode where
  | active
  | passive
  | off
deriving DecidableEq, Repr

/-- The transmit queues, in their listed order. -/
inductive QueueId where
  | q3
  | q2
  | q1
  | q0
deriving DecidableEq, Repr

/-- An alert frame waiting in Q1, with its level (R144). -/
structure LevelFrame where
  level : Level
  frame : Frame
deriving DecidableEq, Repr

/-- The transmit slot's frame, its queue of origin and its failed-attempt number (08, table of items). -/
structure SlotFrame where
  frame : Frame
  origin : QueueId
  failed : Nat
deriving DecidableEq, Repr

/-- The counters of a port (R156), the joined and overflow counters once per queue. -/
structure PortCounts where
  delivered : Nat
  receivedWhileOff : Nat
  foreign : Nat
  joined3 : Nat
  joined2 : Nat
  joined1 : Nat
  joined0 : Nat
  overflow3 : Nat
  overflow2 : Nat
  overflow1 : Nat
  overflow0 : Nat
  offeredWhileOff : Nat
  sent : Nat
  failedAttempts : Nat
  givenUp : Nat
  flushed : Nat
  offEntries : Nat
  recoveries : Nat
deriving DecidableEq, Repr

/-- A port's state (08, table of items). The recovery timer is absent when stopped, else the count it started from. -/
structure Port where
  mode : PortMode
  errorCount : Nat
  giveUpStreak : Nat
  q3 : List Frame
  q2 : List Frame
  q1 : List LevelFrame
  q0 : List Frame
  slot : Option SlotFrame
  credit2 : Nat
  credit1 : Nat
  credit0 : Nat
  recoveryTimer : Option Stamp
  counts : PortCounts
deriving DecidableEq, Repr

/-! ## Fault unit (09) -/

/-- The twelve fault classes, numbered 1 to 12 in this order (R157). -/
inductive FaultClass where
  | inertialLoss
  | wheelLoss
  | signalImplausible
  | streamFlood
  | sequenceError
  | holdExpiry
  | inertialOverrun
  | portBFault
  | readbackMismatch
  | leanSaturation
  | governDegraded
  | portAFault
deriving DecidableEq, Repr

/-- The source of an occurrence (R157): a route index, a port, or absent. -/
inductive Source where
  | route (index : Nat)
  | port (port : PortId)
  | absent
deriving DecidableEq, Repr

/-- The fault unit's record of one class: asserted mark, cause mark, the source and value of the cause as last handed
(R163), and its occurrence count. -/
structure ClassRecord where
  asserted : Bool
  cause : Bool
  lastSource : Source
  lastValue : Half
  occurrences : Nat
deriving DecidableEq, Repr

/-- The phases of a level (R168). -/
inductive Phase where
  | idle
  | active
  | closing
deriving DecidableEq, Repr

/-- A level: its phase, its repeat timer (absent when stopped, else the count it started from) and its frame count. -/
structure LevelRecord where
  phase : Phase
  repeatTimer : Option Stamp
  frames : Nat
deriving DecidableEq, Repr

/-- The fields of a locked capture record (R165). -/
structure Capture where
  cls : FaultClass
  source : Source
  value : Half
  stamp : Stamp
  state : GovState
  lean : Int
  multiple : Bool
  extra : Nat
deriving DecidableEq, Repr

/-- The fault unit's state (09, table of items). An unlocked capture record is absent. -/
structure FaultUnit where
  classes : List ClassRecord
  levels : List LevelRecord
  capture : Option Capture
  captures : Nat
  acknowledgements : Nat
  reassertions : Nat
deriving DecidableEq, Repr

/-! ## Command unit (10) -/

/-- The nine counts of the command unit (R185). -/
structure CommandCounts where
  dashReceived : Nat
  serviceReceived : Nat
  malformed : Nat
  notPermitted : Nat
  badCommand : Nat
  moving : Nat
  repliesOffered : Nat
  repliesLost : Nat
  restarts : Nat
deriving DecidableEq, Repr

/-- The result codes, in the order of the result code table of 10. -/
inductive Result where
  | done
  | badCommand
  | badOperand
  | notPermitted
  | moving
  | inUse
  | busy
  | notSealed
  | mapConflict
  | sealFail
  | duplicate
  | classTaken
  | notReleasable
  | notAsserted
deriving DecidableEq, Repr

end Sys2Proof.Machine
end

