-- ==== Sys2Proof/Machine/Rom.lean ====
section
/-! DEFINITION. The part's constants: timer settings and limits the rules state, the ROM default route set, the ROM
page, the ROM lean reference table and the defaults of the chassis settings. -/

namespace Sys2Proof.Machine

/-! ## Settings and limits -/

/-- Counters are 16 bits wide and saturate here (00_scope, Counters). -/
def counterMax : Nat := 65535
/-- The policing window in ms (R9). -/
def policingWindow : Nat := 100
/-- The START timer's setting in ms (R116). -/
def startSetting : Nat := 3000
/-- The recovery timer's setting in ms (R153). -/
def recoverySetting : Nat := 50
/-- The repeat timers' setting in ms (R168). -/
def repeatSetting : Nat := 200
/-- Depth of the inertial sample queue (R39). -/
def sampleDepth : Nat := 4
/-- Depths of the transmit queues (R142). -/
def depthOf : QueueId → Nat
  | .q3 => 2
  | .q2 => 4
  | .q1 => 4
  | .q0 => 16
/-- Failed attempts after which a frame is given up (R151). -/
def attemptLimit : Nat := 8
/-- The lean clamp in 0.01 degree (R48). -/
def leanLimit : Int := 6500
/-- The limit of the traction cut in Nm (R67). -/
def cutLimit : Nat := 250

/-! ## Identifiers (R141, R188) -/

/-- The lean report's identifier (R57). -/
def leanReportId : Ident := 0x0D0
/-- The monitor frame's identifier (R98). -/
def monitorId : Ident := 0x7A0
/-- The dash reply identifier (R179). -/
def dashReplyId : Ident := 0x6E8
/-- The service reply identifier (R179). -/
def serviceReplyId : Ident := 0x7D8
/-- The alert identifier of a level: 0x0F3 for level 0 down to 0x0F0 for level 3 (09, section 9.4). -/
def alertId (l : Level) : Ident := BitVec.ofNat 11 (0x0F3 - l.val)

/-! ## The route table -/

/-- The blank field values of a FREE or newly claimed entry (01, route field table). -/
def blankFields : RouteFields where
  port := .a
  ident := 0x000
  cls := .pass
  forward := .nowhere
  rewrite := none
  budget := 0
  isProtected := false
  staleTime := 50
  lostTime := 200
  nominalPeriod := 10
  holdLimit := 10

def zeroRouteCounts : RouteCounts := ⟨0, 0, 0, 0, 0, 0, 0, 0⟩

/-- A FREE entry with blank values (R3). -/
def freeEntry : RouteEntry := ⟨.free, blankFields, 0, false, 0, zeroRouteCounts⟩

/-- An ENABLED entry of the ROM default set. -/
def romEntry (f : RouteFields) : RouteEntry := ⟨.enabled, f, 0, false, 0, zeroRouteCounts⟩

/-- The ROM default route set, entries 0 to 8 (R3). -/
def romRoutes : List RouteFields :=
  [{ blankFields with ident := 0x0A4, cls := .inertial, budget := 15, isProtected := true, staleTime := 25, lostTime := 100 },
   { blankFields with ident := 0x0B1, cls := .wheelFront, forward := .otherQ2, budget := 8, isProtected := true, nominalPeriod := 20 },
   { blankFields with ident := 0x0B2, cls := .wheelRear, forward := .otherQ2, budget := 8, isProtected := true, nominalPeriod := 20 },
   { blankFields with ident := 0x0C0, cls := .torqueRequest, rewrite := some 0x0C8, budget := 15, isProtected := true },
   { blankFields with ident := 0x1E0, cls := .riderSelect, budget := 4, isProtected := true, staleTime := 500, lostTime := 2000, nominalPeriod := 40 },
   { blankFields with ident := 0x6E0, cls := .dashCommand, budget := 20 },
   { blankFields with ident := 0x7D0, cls := .serviceCommand, budget := 40 },
   { blankFields with port := .b, ident := 0x2A0, forward := .otherQ0, budget := 10 },
   { blankFields with port := .b, ident := 0x2B0, forward := .otherQ0, budget := 10 }]

/-- The route table after power-on reset: 9 ENABLED entries and 39 FREE ones (R3). -/
def romRouteTable : List RouteEntry := romRoutes.map romEntry ++ List.replicate 39 freeEntry

/-! ## Stream records -/

/-- A stream record in UNSEEN, every other field empty or zero (R22). -/
def unseenRecord : StreamRecord := ⟨.unseen, none, 0, none, none, 0, [], 0, none, none⟩

/-! ## Map pages -/

/-- Page 0, held in ROM (R121). -/
def romPage : Page where
  state := .sealed
  ceiling := [90, 90, 88, 84, 78, 70, 62, 54, 46, 40, 34, 30, 30]
  slipTarget := [60, 60, 55, 50, 45, 40, 35, 30, 28, 26, 24, 22, 20]
  brake := [160, 155, 145, 130, 115, 100, 85, 72, 60, 50, 42, 36, 32]
  scalars := [8, 2, 30, 8, 1, 3, 60, 90]

/-- Pages 1 to 7 after power-on reset: OPEN with 0 in every entry (R139). -/
def blankPage : Page where
  state := .opened
  ceiling := List.replicate 13 0
  slipTarget := List.replicate 13 0
  brake := List.replicate 13 0
  scalars := List.replicate 8 0

/-- The ranges of the scalars, lowest and highest, in index order (R121). -/
def scalarRanges : List (Nat × Nat) :=
  [(0, 64), (0, 64), (10, 200), (1, 64), (0, 50), (1, 50), (0, 400), (0, 400)]

/-- The ROM lean reference table T[0] to T[60] in 0.01 degree (R45). -/
def leanTable : List Nat :=
  [0, 286, 571, 853, 1131, 1404, 1670, 1929, 2180, 2423] ++
  [2657, 2881, 3096, 3302, 3499, 3687, 3866, 4036, 4199, 4353] ++
  [4500, 4640, 4773, 4899, 5019, 5134, 5243, 5347, 5446, 5541] ++
  [5631, 5717, 5799, 5878, 5953, 6026, 6095, 6161, 6224, 6285] ++
  [6343, 6400, 6454, 6506, 6556, 6604, 6650, 6695, 6738, 6780] ++
  [6820, 6859, 6896, 6933, 6968, 7002, 7035, 7067, 7097, 7127] ++ [7157]

/-! ## Chassis settings -/

/-- The default bounds table (R134): roll, yaw, lateral, front, rear, torque. -/
def defaultWindows : List Window :=
  [⟨-3000, 3000, some 800⟩, ⟨-3000, 3000, some 800⟩, ⟨-400, 400, none⟩, ⟨0, 3000, some 150⟩, ⟨0, 3000, some 150⟩, ⟨0, 250, none⟩]

/-- The default front radius row (R135). -/
def defaultFrontRadius : List Nat :=
  [4096, 4095, 4093, 4090, 4086, 4081, 4075, 4068, 4060, 4052, 4044, 4036, 4028, 4020]

/-- The default rear radius row (R135). -/
def defaultRearRadius : List Nat :=
  [4096, 4094, 4089, 4081, 4071, 4058, 4043, 4026, 4008, 3990, 3972, 3954, 3936, 3918]

/-- The default alert map, classes 1 to 12 (R138). -/
def defaultAlertMap : List AlertSetting :=
  [⟨3, false, .follow⟩, ⟨3, false, .follow⟩, ⟨1, false, .latched⟩, ⟨1, false, .latched⟩, ⟨0, false, .latched⟩,
   ⟨1, false, .latched⟩, ⟨0, false, .latched⟩, ⟨3, false, .follow⟩, ⟨3, false, .latched⟩, ⟨1, false, .follow⟩,
   ⟨2, false, .follow⟩, ⟨2, true, .follow⟩]

/-- The chassis settings after power-on reset (R133 to R138). -/
def defaultChassis : Chassis where
  windows := defaultWindows
  frontRadius := defaultFrontRadius
  rearRadius := defaultRearRadius
  decimation := 2
  reportToA := true
  unknownA := .drop
  unknownB := .forwardQ0
  alertMap := defaultAlertMap
  vectorBase := 5

/-! ## Block states after power-on reset -/

def zeroPortCounts : PortCounts := ⟨0, 0, 0, 0, 0, 0, 0, 0, 0, 0, 0, 0, 0, 0, 0, 0, 0, 0⟩

/-- A port after power-on reset (R156). -/
def resetPort : Port where
  mode := .active
  errorCount := 0
  giveUpStreak := 0
  q3 := []
  q2 := []
  q1 := []
  q0 := []
  slot := none
  credit2 := 4
  credit1 := 2
  credit0 := 1
  recoveryTimer := none
  counts := zeroPortCounts

/-- The engine after power-on reset (R29, R37). -/
def resetEngine : Engine := ⟨none, false, false, ⟨0, 0, 0, 0⟩⟩

/-- The lean estimator after power-on reset (R52). -/
def resetLean : LeanState := ⟨0, false, none, false, 0, 0, [], ⟨0, 0, 0, 0, 0, 0, 0⟩⟩

/-- The ceiling evaluator after power-on reset (R81). -/
def resetEvaluator : Evaluator := ⟨0, 60, 0, false, false, false, false, ⟨0, 0, 0, 0, 0⟩⟩

/-- The torque forwarder after power-on reset (R100). -/
def resetForwarder : Forwarder := ⟨none, none, 0, false, ⟨0, 0, 0, 0, 0, 0, 0⟩⟩

/-- ROAD, SOLO, traction on (R119). -/
def resetSelection : Selection := ⟨1, 0, true⟩

/-- Governor control after power-on reset (R119). -/
def resetGovernor : Governor where
  state := .start
  wanted := resetSelection
  applied := resetSelection
  appliedPage := 0
  committing := none
  withdrawn := false
  startTimer := .running 0
  counts := ⟨0, 0, 0, 0, 0, 0, 0, 0⟩

/-- The page store after power-on reset (R139). -/
def resetStore : PageStore where
  pages := romPage :: List.replicate 7 blankPage
  sealRecord := none
  pageMap := List.replicate 12 0
  chassis := defaultChassis
  counts := ⟨0, 0, 0, 0, 0, 0, 0, 0⟩

/-- A released class with no cause (R173). The last source and value are the model's (DESIGN CHOICE, log 21): they are
written before they are ever read. -/
def releasedClass : ClassRecord := ⟨false, false, .absent, 0, 0⟩

/-- An IDLE level (R173). -/
def idleLevel : LevelRecord := ⟨.idle, none, 0⟩

/-- The fault unit after power-on reset (R173). -/
def resetFaults : FaultUnit where
  classes := List.replicate 12 releasedClass
  levels := List.replicate 4 idleLevel
  capture := none
  captures := 0
  acknowledgements := 0
  reassertions := 0

/-- The command unit after power-on reset (R185). -/
def resetCommands : CommandCounts := ⟨0, 0, 0, 0, 0, 0, 0, 0, 0⟩

end Sys2Proof.Machine
end

