-- ==== Sys2Proof/Machine/State.lean ====
section
/-! DEFINITION. The part's state as plain data, its state after power-on reset, and the ways a step can stop. -/

namespace Sys2Proof.Machine

/-- Why the part stops with a fault. No constructor: the spec names no event that stops the part. Every refusal of a
command is a reply with a result code (R179) and every loss is a change of state. -/
inductive Fault where
deriving DecidableEq, Repr

/-- Why a command is refused by the model. -/
inductive Refusal where
  /-- Raised by an arm of exec whose command has no meaning yet; safe. No arm uses it. -/
  | notModelled (mnemonic : String)
deriving DecidableEq, Repr

/-- The state of the whole part, block by block (00_scope, Block overview), with the queue of waiting commands. -/
structure State where
  /-- The time base count (R1). -/
  now : Stamp
  /-- The count the policing window timer last started from (R9). -/
  policingStart : Stamp
  /-- The route table, entries 0 to 47 (R2, R3). -/
  routes : List RouteEntry
  /-- The unknown-identifier counters of Port A and Port B (R8). -/
  unknownA : UnknownCounts
  unknownB : UnknownCounts
  /-- The five stream records (01, section 1.7). -/
  inertial : StreamRecord
  wheelFront : StreamRecord
  wheelRear : StreamRecord
  torqueRequest : StreamRecord
  riderSelect : StreamRecord
  engine : Engine
  lean : LeanState
  eval : Evaluator
  forwarder : Forwarder
  governor : Governor
  store : PageStore
  portA : Port
  portB : Port
  faults : FaultUnit
  commands : CommandCounts
  /-- The model's own: how many free choices have been made (log 7). -/
  draws : Nat
  /-- The model's own: the steps of 0.1 ms that idle steps have passed since the time base advanced, at most 10 (log 5). -/
  tenths : Nat
  /-- The commands that wait, the oldest first. -/
  pending : List Instr
deriving DecidableEq, Repr

/-- The part right after power-on reset. -/
def State.reset : State where
  now := 0
  policingStart := 0
  routes := romRouteTable
  unknownA := ⟨0, 0⟩
  unknownB := ⟨0, 0⟩
  inertial := unseenRecord
  wheelFront := unseenRecord
  wheelRear := unseenRecord
  torqueRequest := unseenRecord
  riderSelect := unseenRecord
  engine := resetEngine
  lean := resetLean
  eval := resetEvaluator
  forwarder := resetForwarder
  governor := resetGovernor
  store := resetStore
  portA := resetPort
  portB := resetPort
  faults := resetFaults
  commands := resetCommands
  draws := 0
  tenths := 0
  pending := []

end Sys2Proof.Machine
end

