-- ==== Sys2Proof/Machine/Ops.lean ====
section
/-! DEFINITION. The operations that several blocks share: counters, timers, lookups, the check byte, the ports' queues
with their overflow policies, and the transmit arbiter. -/

namespace Sys2Proof.Machine

/-! ## Counters and timers -/

/-- A counter of 16 bits increases by one and saturates at 65535 (00_scope, Counters). -/
def bump (n : Nat) : Nat := min (n + 1) counterMax

/-- A saturating counter increased by `k`. -/
def bumpBy (n k : Nat) : Nat := min (n + k) counterMax

/-- A counter increased when a condition holds. -/
def bumpIf (c : Bool) (n : Nat) : Nat := if c then bump n else n

/-- A timer has reached its setting: the age of its start is the setting or more, modulo 65536 (R1). DEDUCED, log 3: an
expiry that is due stays due until it is taken. -/
def timerDue (now start : Stamp) (setting : Nat) : Bool := decide (setting ≤ ageOf now start)

/-- The time remaining on a timer, 0 once it has reached its setting (R189). -/
def timeRemaining (now start : Stamp) (setting : Nat) : Nat := setting - ageOf now start

/-- A running timer has reached its setting; a stopped timer never has. -/
def dueOption (now : Stamp) : Option Timer → Bool
  | some t => timerDue now t.start t.setting
  | none => false

/-! ## Access to the state by name -/

/-- The state of a port. -/
def State.port (s : State) : PortId → Port
  | .a => s.portA
  | .b => s.portB

/-- The state with one port replaced. -/
def State.setPort (s : State) (p : PortId) (x : Port) : State :=
  match p with
  | .a => { s with portA := x }
  | .b => { s with portB := x }

/-- The stream record of a consuming class. -/
def State.stream (s : State) : StreamId → StreamRecord
  | .inertial => s.inertial
  | .wheelFront => s.wheelFront
  | .wheelRear => s.wheelRear
  | .torqueRequest => s.torqueRequest
  | .riderSelect => s.riderSelect

/-- The state with one stream record replaced. -/
def State.setStream (s : State) (i : StreamId) (r : StreamRecord) : State :=
  match i with
  | .inertial => { s with inertial := r }
  | .wheelFront => { s with wheelFront := r }
  | .wheelRear => { s with wheelRear := r }
  | .torqueRequest => { s with torqueRequest := r }
  | .riderSelect => { s with riderSelect := r }

/-- The class of route entries that feed a stream. -/
def classOf : StreamId → RouteClass
  | .inertial => .inertial
  | .wheelFront => .wheelFront
  | .wheelRear => .wheelRear
  | .torqueRequest => .torqueRequest
  | .riderSelect => .riderSelect

/-- The stream of a consuming class; none for the other classes (00_scope, Terms: consuming class). -/
def streamOf : RouteClass → Option StreamId
  | .inertial => some .inertial
  | .wheelFront => some .wheelFront
  | .wheelRear => some .wheelRear
  | .torqueRequest => some .torqueRequest
  | .riderSelect => some .riderSelect
  | .dashCommand => none
  | .serviceCommand => none
  | .pass => none

/-- A route entry by index; an index outside 0 to 47 reads as a FREE entry. -/
def State.route (s : State) (i : Nat) : RouteEntry := s.routes.getD i freeEntry

/-- The state with one route entry changed. -/
def State.modifyRoute (s : State) (i : Nat) (f : RouteEntry → RouteEntry) : State :=
  { s with routes := s.routes.modify i f }

/-- The state with the counters of one route entry changed. -/
def State.countRoute (s : State) (i : Nat) (f : RouteCounts → RouteCounts) : State :=
  s.modifyRoute i (fun e => { e with counts := f e.counts })

/-- The index of the ENABLED entry of a class (R5: a consuming class has at most one). -/
def State.enabledOf (s : State) (c : RouteClass) : Option Nat :=
  s.routes.findIdx? (fun e => decide (e.state = .enabled ∧ e.fields.cls = c))

/-- The source of an occurrence that names a class's ENABLED entry, absent if there is none (R157). -/
def State.routeSource (s : State) (c : RouteClass) : Source :=
  match s.enabledOf c with
  | some i => .route i
  | none => .absent

/-- A page by number. -/
def PageStore.page (t : PageStore) (i : Nat) : Page := t.pages.getD i blankPage

/-- The page store with one page changed. -/
def PageStore.modifyPage (t : PageStore) (i : Nat) (f : Page → Page) : PageStore :=
  { t with pages := t.pages.modify i f }

/-- The number of a page map slot: mode times 3 plus load (R130). -/
def mapSlot (sel : Selection) : Nat := sel.mode * 3 + sel.load

/-- The page that the map names for a selection (R105). -/
def PageStore.pageFor (t : PageStore) (sel : Selection) : Nat := t.pageMap.getD (mapSlot sel) 0

/-- The applied page's contents (R105). -/
def State.appliedPage (s : State) : Page := s.store.page s.governor.appliedPage

/-! ## Page scalars (R121) -/

def Page.normalGain (p : Page) : Nat := p.scalars.getD 0 0
def Page.slideGain (p : Page) : Nat := p.scalars.getD 1 0
def Page.slideThreshold (p : Page) : Nat := p.scalars.getD 2 0
def Page.cutGrowth (p : Page) : Nat := p.scalars.getD 3 0
def Page.cutDecay (p : Page) : Nat := p.scalars.getD 4 0
def Page.riseMax (p : Page) : Nat := p.scalars.getD 5 0
def Page.limpCeiling (p : Page) : Nat := p.scalars.getD 6 0
def Page.hardCeiling (p : Page) : Nat := p.scalars.getD 7 0

/-! ## Check byte -/

/-- The check byte of a frame: 255 less the sum of data bytes 0 to 6 and the low 8 bits of the identifier, modulo 256
(R12). -/
def checkByte (ident : Ident) (data : List Byte) : Byte :=
  255 - (data.take 7).foldl (· + ·) (ident.setWidth 8)

/-- A frame of 8 bytes built by the part: seven bytes and their check byte (R186, Protection). -/
def protectedFrame (ident : Ident) (seven : List Byte) : Frame := ⟨ident, seven ++ [checkByte ident seven]⟩

/-! ## The transmit arbiter (R147, R148) -/

/-- Q2, Q1 and Q0 as the round sees them: a queue is eligible when it holds a frame and its credit is above 0. -/
def Port.eligible2 (p : Port) : Bool := decide (p.q2 ≠ [] ∧ 0 < p.credit2)
def Port.eligible1 (p : Port) : Bool := decide (p.q1 ≠ [] ∧ 0 < p.credit1)
def Port.eligible0 (p : Port) : Bool := decide (p.q0 ≠ [] ∧ 0 < p.credit0)
def Port.anyEligible (p : Port) : Bool := p.eligible2 || p.eligible1 || p.eligible0

/-- Any of Q2, Q1 and Q0 holds a frame. -/
def Port.lowerHold (p : Port) : Bool := decide (p.q2 ≠ [] ∨ p.q1 ≠ [] ∨ p.q0 ≠ [])

/-- A new round: the credits become 4, 2 and 1 (R148). -/
def Port.newRound (p : Port) : Port := { p with credit2 := 4, credit1 := 2, credit0 := 1 }

/-- The round in force for the choice: a new one when no queue is eligible although one holds a frame (R148, step 2). -/
def Port.roundForChoice (p : Port) : Port :=
  if !p.anyEligible && p.lowerHold then p.newRound else p

/-- The highest-numbered eligible queue gives its head to the slot and spends a credit (R148, step 3). -/
def Port.takeByCredit (p : Port) : Port :=
  if p.eligible2 then
    { p with q2 := p.q2.tail, credit2 := p.credit2 - 1, slot := p.q2.head?.map (⟨·, .q2, 0⟩) }
  else if p.eligible1 then
    { p with q1 := p.q1.tail, credit1 := p.credit1 - 1, slot := p.q1.head?.map (fun a => ⟨a.frame, .q1, 0⟩) }
  else if p.eligible0 then
    { p with q0 := p.q0.tail, credit0 := p.credit0 - 1, slot := p.q0.head?.map (⟨·, .q0, 0⟩) }
  else p

/-- The arbiter's choice: a port that is not OFF and whose slot is empty takes Q3 first, otherwise by credits (R147, R148). -/
def Port.arbitrate (p : Port) : Port :=
  if p.mode = .off ∨ p.slot.isSome then p
  else match p.q3 with
    | f :: rest => { p with q3 := rest, slot := some ⟨f, .q3, 0⟩ }
    | [] => p.roundForChoice.takeByCredit

/-! ## Offers to the queues (R142 to R146) -/

/-- An offer to a port in OFF is discarded and counted (R146). -/
def Port.discardOffer (p : Port) : Port :=
  { p with counts := { p.counts with offeredWhileOff := bump p.counts.offeredWhileOff } }

/-- A frame joins Q3; a full Q3 first drops its oldest frame (R142, R143). A join is counted in every case (log 24). -/
def Port.join3 (p : Port) (f : Frame) : Port :=
  let full := decide (depthOf .q3 ≤ p.q3.length)
  { p with
    q3 := (if full then p.q3.tail else p.q3) ++ [f]
    counts := { p.counts with joined3 := bump p.counts.joined3, overflow3 := bumpIf full p.counts.overflow3 } }

/-- A frame joins Q2; a full Q2 first drops its oldest frame (R142, R143). -/
def Port.join2 (p : Port) (f : Frame) : Port :=
  let full := decide (depthOf .q2 ≤ p.q2.length)
  { p with
    q2 := (if full then p.q2.tail else p.q2) ++ [f]
    counts := { p.counts with joined2 := bump p.counts.joined2, overflow2 := bumpIf full p.counts.overflow2 } }

/-- A frame joins Q0 when it has room; a full Q0 refuses it (R142, R145). -/
def Port.join0 (p : Port) (f : Frame) : Port :=
  if p.q0.length < depthOf .q0 then
    { p with q0 := p.q0 ++ [f], counts := { p.counts with joined0 := bump p.counts.joined0 } }
  else
    { p with counts := { p.counts with overflow0 := bump p.counts.overflow0 } }

/-- An alert frame joins the tail of Q1, or takes the place of the waiting frame of its level (R144). -/
def Port.join1 (p : Port) (l : Level) (f : Frame) : Port :=
  let held := p.q1.any (fun a => decide (a.level = l))
  { p with
    q1 := if held then p.q1.map (fun a => if a.level = l then ⟨l, f⟩ else a) else p.q1 ++ [⟨l, f⟩]
    counts := { p.counts with joined1 := bump p.counts.joined1, overflow1 := bumpIf held p.counts.overflow1 } }

/-- What follows a join: with the slot empty, the arbiter chooses at once (R147). One place for the convention of log 2. -/
def Port.afterJoin (p : Port) : Port := p.arbitrate

/-- The queues that take plain frames. Q1 takes alert frames alone (R142). -/
inductive PlainQueue where
  | q3
  | q2
  | q0
deriving DecidableEq, Repr

/-- A frame offered to Q3, Q2 or Q0 of a port (R142 to R146). -/
def Port.offer (p : Port) (q : PlainQueue) (f : Frame) : Port :=
  if p.mode = .off then p.discardOffer
  else match q with
    | .q3 => (p.join3 f).afterJoin
    | .q2 => (p.join2 f).afterJoin
    | .q0 => (p.join0 f).afterJoin

/-- An alert frame offered to Q1 (R144, R146). -/
def Port.offerAlert (p : Port) (l : Level) (f : Frame) : Port :=
  if p.mode = .off then p.discardOffer else (p.join1 l f).afterJoin

/-- Port takes an offer to Q0: it is not OFF and Q0 has room (R145, R146). -/
def Port.takesQ0 (p : Port) : Bool := decide (p.mode ≠ .off ∧ p.q0.length < depthOf .q0)

/-- A frame offered to a queue of a port. -/
def State.offer (s : State) (p : PortId) (q : PlainQueue) (f : Frame) : State :=
  s.setPort p ((s.port p).offer q f)

/-- The arbiter's choice at a port. -/
def State.arbitrate (s : State) (p : PortId) : State := s.setPort p (s.port p).arbitrate

end Sys2Proof.Machine
end

