-- ==== Sys2Proof/Machine/Operands.lean ====
section
/-! DEFINITION. How values are read from frames and written into them: signed and unsigned fields, the positions of
enumerated values, packed frames, and the interpolation of rows on lean. -/

namespace Sys2Proof.Machine

/-! ## Fields of received frames (R186, R187) -/

/-- An unsigned field of two bytes. -/
def unsignedAt (data : List Byte) (i : Nat) : Nat := (halfOf (dataByte data i) (dataByte data (i + 1))).toNat

/-- A signed field of two bytes, two's complement. -/
def signedAt (data : List Byte) (i : Nat) : Int := (halfOf (dataByte data i) (dataByte data (i + 1))).toInt

/-- The alive counter of a protected frame: the low nibble of byte 6 (R13). -/
def aliveOf (data : List Byte) : Alive := (dataByte data 6).extractLsb' 0 4

/-- A clamp to a range: below takes the lower limit, above the upper (00_scope, Arithmetic). -/
def clampInt (low high x : Int) : Int := if x < low then low else if high < x then high else x

/-- The values of a consuming frame at the positions of R187, torque as requested and not yet clamped. -/
def valuesOf (i : StreamId) (data : List Byte) : Values :=
  match i with
  | .inertial => .inertial (signedAt data 0) (signedAt data 2) (signedAt data 4)
  | .wheelFront => .speed (unsignedAt data 0)
  | .wheelRear => .speed (unsignedAt data 0)
  | .torqueRequest => .torque (unsignedAt data 0) false
  | .riderSelect => .selection (dataByte data 0).toNat (dataByte data 1).toNat (decide (dataByte data 2 ≠ 0))

/-- The latest speed of a wheel record. -/
def StreamRecord.speed (r : StreamRecord) : Option Nat :=
  match r.latest with
  | some (.speed v) => some v
  | _ => none

/-- The latest T_req' of the torque request record. -/
def StreamRecord.request (r : StreamRecord) : Option Nat :=
  match r.latest with
  | some (.torque t _) => some t
  | _ => none

/-! ## Interpolation on lean (R53, R62) -/

/-- A row read at a lean in 0.01 degree, breakpoints 5 degrees apart, `last` the index of its last entry. The quotient
rounds toward zero. -/
def readRow (row : List Nat) (last lean : Nat) : Nat :=
  let i := lean / 500
  let f := lean % 500
  if last ≤ i then row.getD last 0
  else
    let e : Int := row.getD i 0
    let next : Int := row.getD (i + 1) 0
    (e + ((next - e) * f).tdiv 500).toNat

/-- The lean used for every row lookup: the magnitude of L, taken as 0 while lean-valid is false (R53, R62). -/
def lookupLean (lean : Int) (valid : Bool) : Nat := if valid then lean.natAbs else 0

/-- L/10 rounded toward zero: lean in frames (00_scope, Quantities). -/
def leanTenths (lean : Int) : Int := lean.tdiv 10

/-! ## Positions of enumerated values (R186, R189) -/

def StreamState.code : StreamState → Nat
  | .unseen => 0
  | .fresh => 1
  | .stale => 2
  | .lost => 3
  | .faulty => 4

def GovState.code : GovState → Nat
  | .start => 0
  | .govern => 1
  | .limp => 2
  | .bypass => 3

def PortMode.code : PortMode → Nat
  | .active => 0
  | .passive => 1
  | .off => 2

def PageState.code : PageState → Nat
  | .opened => 0
  | .sealing => 1
  | .sealed => 2

def RouteState.code : RouteState → Nat
  | .free => 0
  | .disabled => 1
  | .enabled => 2

def QueueId.code : QueueId → Nat
  | .q3 => 0
  | .q2 => 1
  | .q1 => 2
  | .q0 => 3

def Phase.code : Phase → Nat
  | .idle => 0
  | .active => 1
  | .closing => 2

def portCode : PortId → Nat
  | .a => 0
  | .b => 1

def RouteClass.code : RouteClass → Nat
  | .inertial => 0
  | .wheelFront => 1
  | .wheelRear => 2
  | .torqueRequest => 3
  | .riderSelect => 4
  | .dashCommand => 5
  | .serviceCommand => 6
  | .pass => 7

def Forward.code : Forward → Nat
  | .nowhere => 0
  | .otherQ2 => 1
  | .otherQ0 => 2

def UnknownAction.code : UnknownAction → Nat
  | .drop => 0
  | .forwardQ2 => 1
  | .forwardQ0 => 2

def ReleaseType.code : ReleaseType → Nat
  | .latched => 0
  | .follow => 1

/-- The kind of a job, in the order CEILING, LEAN, SEAL_STEP (02, section 2.1). -/
def Job.code : Job → Nat
  | .ceiling _ => 0
  | .lean _ => 1
  | .sealStep _ => 2

/-- The result codes' numbers, in the order of the result code table (R189). -/
def Result.code : Result → Nat
  | .done => 0
  | .badCommand => 1
  | .badOperand => 2
  | .notPermitted => 3
  | .moving => 4
  | .inUse => 5
  | .busy => 6
  | .notSealed => 7
  | .mapConflict => 8
  | .sealFail => 9
  | .duplicate => 10
  | .classTaken => 11
  | .notReleasable => 12
  | .notAsserted => 13

/-- A mark or switch is 1 when set or on and 0 otherwise (R186). -/
def flagCode (b : Bool) : Nat := if b then 1 else 0

/-- A one-byte field. -/
def byteOf (n : Nat) : Byte := BitVec.ofNat 8 n

/-- A two-byte unsigned field, most significant byte first. -/
def twoBytes (n : Nat) : List Byte := bytesOf (BitVec.ofNat 16 n)

/-- A two-byte signed field, two's complement. -/
def twoBytesSigned (x : Int) : List Byte := bytesOf (BitVec.ofInt 16 x)

/-! ## Packed frames (R186, R188) -/

/-- Seven bytes of packed fields, byte 0 from the most significant bits. -/
def packedBytes (w : BitVec 56) : List Byte :=
  [w.extractLsb' 48 8, w.extractLsb' 40 8, w.extractLsb' 32 8, w.extractLsb' 24 8, w.extractLsb' 16 8,
   w.extractLsb' 8 8, w.extractLsb' 0 8]

end Sys2Proof.Machine
end

