-- ==== Sys2Proof/Machine/FaultUnit.lean ====
section
/-! DEFINITION. The fault unit (09): occurrences, assertion and release, the capture record, alert levels and alert
frames. Its operations act on the fault unit and Port A alone, and read the rest of the part through `FaultEnv`. -/

namespace Sys2Proof.Machine

/-- The twelve classes in number order. -/
def allClasses : List FaultClass :=
  [.inertialLoss, .wheelLoss, .signalImplausible, .streamFlood, .sequenceError, .holdExpiry, .inertialOverrun, .portBFault,
   .readbackMismatch, .leanSaturation, .governDegraded, .portAFault]

/-- The position of a class in the records: its number less one (R157). -/
def FaultClass.index : FaultClass → Nat
  | .inertialLoss => 0
  | .wheelLoss => 1
  | .signalImplausible => 2
  | .streamFlood => 3
  | .sequenceError => 4
  | .holdExpiry => 5
  | .inertialOverrun => 6
  | .portBFault => 7
  | .readbackMismatch => 8
  | .leanSaturation => 9
  | .governDegraded => 10
  | .portAFault => 11

/-- The number of a class, 1 to 12 (R157). -/
def FaultClass.number (c : FaultClass) : Nat := c.index + 1

/-- The class of a number; none outside 1 to 12. -/
def classOfNumber (n : Nat) : Option FaultClass := if n = 0 then none else allClasses[n - 1]?

/-- The kind of a class: condition, or else event (R157). -/
def FaultClass.isCondition : FaultClass → Bool
  | .inertialLoss => true
  | .wheelLoss => true
  | .portBFault => true
  | .leanSaturation => true
  | .governDegraded => true
  | .portAFault => true
  | .signalImplausible => false
  | .streamFlood => false
  | .sequenceError => false
  | .holdExpiry => false
  | .inertialOverrun => false
  | .readbackMismatch => false

/-- What the fault unit reads from the other blocks when it takes a hand-off. -/
structure FaultEnv where
  map : List AlertSetting
  vectorBase : Nat
  now : Stamp
  state : GovState
  lean : Int

/-- What the fault unit writes: its own state, and Port A through its alert frames. -/
structure FaultSide where
  unit : FaultUnit
  port : Port

/-! ## Access -/

/-- The alert map's items of a class. -/
def settingOf (map : List AlertSetting) (c : FaultClass) : AlertSetting := map.getD c.index ⟨0, false, .latched⟩

/-- The record of a class. -/
def FaultUnit.record (u : FaultUnit) (c : FaultClass) : ClassRecord := u.classes.getD c.index releasedClass

/-- The fault unit with one class record changed. -/
def FaultUnit.modifyRecord (u : FaultUnit) (c : FaultClass) (f : ClassRecord → ClassRecord) : FaultUnit :=
  { u with classes := u.classes.modify c.index f }

/-- The record of a level. -/
def FaultUnit.level (u : FaultUnit) (l : Level) : LevelRecord := u.levels.getD l.val idleLevel

/-- The fault unit with one level record changed. -/
def FaultUnit.modifyLevel (u : FaultUnit) (l : Level) (f : LevelRecord → LevelRecord) : FaultUnit :=
  { u with levels := u.levels.modify l.val f }

/-- The asserted mark of a class set or cleared. -/
def FaultUnit.setAsserted (u : FaultUnit) (c : FaultClass) (b : Bool) : FaultUnit :=
  u.modifyRecord c (fun r => { r with asserted := b })

/-- The shown mask of a level: the classes asserted, unmasked and mapped to it (R159). -/
def shownMask (map : List AlertSetting) (u : FaultUnit) (l : Level) : List FaultClass :=
  allClasses.filter (fun c => (u.record c).asserted && !(settingOf map c).masked && decide ((settingOf map c).level = l))

/-- An event class whose release type is FOLLOW (R160). -/
def isFollowEvent (map : List AlertSetting) (c : FaultClass) : Bool :=
  !c.isCondition && decide ((settingOf map c).release = .follow)

/-- The fault summary: any class asserted, masked ones included (R167). -/
def FaultUnit.summary (u : FaultUnit) : Bool := u.classes.any (·.asserted)

/-! ## Alert frames (R168, R170) -/

/-- The asserted mask of an alert frame: class n sets bit n - 1 (R188). -/
def maskBits (shown : List FaultClass) : Half := shown.foldl (fun m c => m ||| (1#16 <<< c.index)) 0

/-- The vector byte: the vector base in the high nibble and the lowest-numbered shown class, or 0, in the low (R170). -/
def vectorByte (base : Nat) (shown : List FaultClass) : Byte :=
  byteOf (base * 16 + (shown.head?.map FaultClass.number).getD 0)

/-- The alert frame of a level with a shown mask (R170, R188). -/
def alertFrame (base : Nat) (l : Level) (shown : List FaultClass) : Frame :=
  ⟨alertId l, bytesOf (maskBits shown) ++ [vectorByte base shown]⟩

/-- The FOLLOW events that a queued frame carries are released by it (R162). -/
def FaultUnit.releaseCarried (u : FaultUnit) (map : List AlertSetting) (carried : List FaultClass) : FaultUnit :=
  (carried.filter (isFollowEvent map)).foldl (fun u c => u.setAsserted c false) u

/-- One alert frame of a level is queued: built from the present shown mask, offered to Port A's Q1 and counted; the
FOLLOW events it carries are released, and a level they leave empty passes to CLOSING (R162, R168, R170; log 27). -/
def FaultSide.emit (env : FaultEnv) (l : Level) (x : FaultSide) : FaultSide :=
  let carried := shownMask env.map x.unit l
  let counted := x.unit.modifyLevel l (fun r => { r with frames := bump r.frames })
  let released := counted.releaseCarried env.map carried
  let emptied := decide (carried ≠ [] ∧ shownMask env.map released l = [])
  { unit := if emptied then released.modifyLevel l (fun r => { r with phase := .closing }) else released
    port := x.port.offerAlert l (alertFrame env.vectorBase l carried) }

/-- A class has been added to a level's shown mask: the level is ACTIVE, a frame is queued at once and the repeat timer
starts or restarts (R168). -/
def FaultSide.levelAdd (env : FaultEnv) (l : Level) (x : FaultSide) : FaultSide :=
  ({ x with unit := x.unit.modifyLevel l (fun r => { r with phase := .active, repeatTimer := some env.now }) } : FaultSide).emit env l

/-- A class has been removed from a level's shown mask by a release other than the frame-release: an ACTIVE level whose
mask is now empty queues its final frame at once and becomes IDLE (R168). -/
def FaultSide.levelRemove (env : FaultEnv) (l : Level) (x : FaultSide) : FaultSide :=
  if (x.unit.level l).phase = .active ∧ shownMask env.map x.unit l = [] then
    ({ x with unit := x.unit.modifyLevel l (fun r => { r with phase := .idle, repeatTimer := none }) } : FaultSide).emit env l
  else x

/-! ## Capture (R165, R166) -/

/-- An occurrence locks an unlocked capture record, or is recorded as a multiple (R165, R166). -/
def FaultUnit.take (u : FaultUnit) (env : FaultEnv) (c : FaultClass) (source : Source) (value : Half) : FaultUnit :=
  match u.capture with
  | none =>
    { u with
      capture := some ⟨c, source, value, env.now, env.state, leanTenths env.lean, false, 0⟩
      captures := bump u.captures }
  | some r => { u with capture := some { r with multiple := true, extra := min (r.extra + 1) 255 } }

/-! ## Occurrences and releases -/

/-- The fault unit takes an occurrence (R159): capture, count, assertion, and the treatment of the level. A FOLLOW event
that is masked is released at once (R162). -/
def FaultSide.occur (env : FaultEnv) (c : FaultClass) (source : Source) (value : Half) (x : FaultSide) : FaultSide :=
  let counted := (x.unit.take env c source value).modifyRecord c (fun r => { r with occurrences := bump r.occurrences })
  if (x.unit.record c).asserted then { x with unit := counted }
  else if (settingOf env.map c).masked then
    { x with unit := counted.setAsserted c (!isFollowEvent env.map c) }
  else
    ({ x with unit := counted.setAsserted c true } : FaultSide).levelAdd env (settingOf env.map c).level

/-- A class is released, and its level treated when the class was shown (R160, R168). -/
def FaultSide.release (env : FaultEnv) (c : FaultClass) (x : FaultSide) : FaultSide :=
  let released : FaultSide := { x with unit := x.unit.setAsserted c false }
  if (x.unit.record c).asserted ∧ (settingOf env.map c).masked = false then
    released.levelRemove env (settingOf env.map c).level
  else released

/-- An owner hands the fault unit a fault event, or the presence or absence of a condition's cause (R157, R158). -/
inductive HandOff where
  | event (c : FaultClass) (source : Source) (value : Half)
  | present (c : FaultClass) (source : Source) (value : Half)
  | absent (c : FaultClass)
deriving DecidableEq, Repr

/-- The fault unit takes one hand-off whole (R158, R159, R161). Present handed to a present mark does nothing, and so does
absent handed to an absent one. -/
def FaultSide.takeHandOff (env : FaultEnv) (x : FaultSide) : HandOff → FaultSide
  | .event c source value => x.occur env c source value
  | .present c source value =>
    if (x.unit.record c).cause then x
    else
      ({ x with unit := x.unit.modifyRecord c (fun r => { r with cause := true, lastSource := source, lastValue := value }) } :
        FaultSide).occur env c source value
  | .absent c =>
    if (x.unit.record c).cause then
      let cleared : FaultSide := { x with unit := x.unit.modifyRecord c (fun r => { r with cause := false }) }
      if (x.unit.record c).asserted ∧ (settingOf env.map c).release = .follow then cleared.release env c else cleared
    else x

/-- A hand-off that does something to the marks as they stand. -/
def HandOff.matters (u : FaultUnit) : HandOff → Bool
  | .event _ _ _ => true
  | .present c _ _ => !(u.record c).cause
  | .absent c => (u.record c).cause

/-- The hand-offs of one event in the order that the free choices from `draw` on pick (R159; FREE VALUE, log 7). -/
def freeOrder : Nat → Nat → List HandOff → List HandOff
  | 0, _, hs => hs
  | n + 1, draw, hs =>
    match hs with
    | [] => []
    | [h] => [h]
    | h :: g :: rest =>
      let k := Config.freePick draw % (rest.length + 2)
      (h :: g :: rest).getD k h :: freeOrder n (draw + 1) ((h :: g :: rest).eraseIdx k)

/-- Several hand-offs taken one after another, each whole. -/
def FaultSide.takeAll (env : FaultEnv) (x : FaultSide) (hs : List HandOff) : FaultSide :=
  hs.foldl (fun y h => y.takeHandOff env h) x

/-! ## Acknowledgement (R163) -/

/-- The re-assertion of a LATCHED condition whose cause is present: a new occurrence with the source and value last
handed; a shown class counts as an addition to its level (R163; logs 9 and 29). -/
def FaultSide.reassert (env : FaultEnv) (c : FaultClass) (x : FaultSide) : FaultSide :=
  let r := x.unit.record c
  let taken := (x.unit.take env c r.lastSource r.lastValue).modifyRecord c (fun r => { r with occurrences := bump r.occurrences })
  let counted : FaultSide := { x with unit := { taken with reassertions := bump taken.reassertions } }
  if (settingOf env.map c).masked then counted else counted.levelAdd env (settingOf env.map c).level

/-- A release by acknowledgement, counted (R163). -/
def FaultSide.ackRelease (env : FaultEnv) (c : FaultClass) (x : FaultSide) : FaultSide :=
  ({ x with unit := { x.unit with acknowledgements := bump x.unit.acknowledgements } } : FaultSide).release env c

/-- ACK ALERT of a class, by its number (R163). -/
def FaultSide.acknowledge (env : FaultEnv) (number : Nat) (x : FaultSide) : FaultSide × Result :=
  match classOfNumber number with
  | none => (x, .badOperand)
  | some c =>
    if (x.unit.record c).asserted = false then (x, .notAsserted)
    else if c.isCondition then
      match (settingOf env.map c).release with
      | .follow => (x, .notReleasable)
      | .latched =>
        if (x.unit.record c).cause then (x.reassert env c, .done) else (x.ackRelease env c, .done)
    else (x.ackRelease env c, .done)

/-! ## Alert map writes, repeats and resynchronisation -/

/-- What an accepted alert map write does to the class written, given its items before the write (R171; log 33). `env` reads
the map after the write. -/
def FaultSide.mapWritten (env : FaultEnv) (c : FaultClass) (old : AlertSetting) (x : FaultSide) : FaultSide :=
  let new := settingOf env.map c
  if (x.unit.record c).asserted = false then x
  else if old.level ≠ new.level then
    if new.masked then x else (x.levelRemove env old.level).levelAdd env new.level
  else if old.masked = false ∧ new.masked = true then
    let removed := x.levelRemove env new.level
    if isFollowEvent env.map c then { removed with unit := removed.unit.setAsserted c false } else removed
  else if old.masked = true ∧ new.masked = false then x.levelAdd env new.level
  else if old.release = .latched ∧ new.release = .follow then
    if c.isCondition then
      if (x.unit.record c).cause then x else x.release env c
    else if new.masked then { x with unit := x.unit.setAsserted c false } else x
  else x

/-- The repeat timer of a level expires (R169). -/
def FaultSide.repeatExpiry (env : FaultEnv) (l : Level) (x : FaultSide) : FaultSide :=
  match (x.unit.level l).phase with
  | .active => ({ x with unit := x.unit.modifyLevel l (fun r => { r with repeatTimer := some env.now }) } : FaultSide).emit env l
  | .closing =>
    ({ x with unit := x.unit.modifyLevel l (fun r => { r with phase := .idle, repeatTimer := none }) } : FaultSide).emit env l
  | .idle => x

/-- One level's frame at Port A's recovery: an ACTIVE level restarts its timer, a CLOSING one becomes IDLE (R172). -/
def FaultSide.resyncLevel (env : FaultEnv) (x : FaultSide) (l : Level) : FaultSide :=
  match (x.unit.level l).phase with
  | .active => ({ x with unit := x.unit.modifyLevel l (fun r => { r with repeatTimer := some env.now }) } : FaultSide).emit env l
  | .closing =>
    ({ x with unit := x.unit.modifyLevel l (fun r => { r with phase := .idle, repeatTimer := none }) } : FaultSide).emit env l
  | .idle => x.emit env l

/-- Port A's recovery queues one frame for each level, in level order 3, 2, 1, 0 (R172). -/
def FaultSide.resync (env : FaultEnv) (x : FaultSide) : FaultSide :=
  [3, 2, 1, 0].foldl (fun y l => y.resyncLevel env l) x

/-! ## The fault unit within the part -/

/-- What the fault unit reads now. -/
def State.faultEnv (s : State) : FaultEnv :=
  ⟨s.store.chassis.alertMap, s.store.chassis.vectorBase, s.now, s.governor.state, s.lean.lean⟩

/-- The fault unit's own state with Port A. -/
def State.faultSide (s : State) : FaultSide := ⟨s.faults, s.portA⟩

/-- The state with the fault unit and Port A replaced: the only two parts a hand-off reaches. -/
def State.withFaultSide (s : State) (x : FaultSide) : State := { s with faults := x.unit, portA := x.port }

/-- One hand-off taken at once. -/
def State.handOff (s : State) (h : HandOff) : State := s.withFaultSide (s.faultSide.takeHandOff s.faultEnv h)

/-- The hand-offs of one event, taken after the owners' writes (R165; log 8) in the order the free choices pick (R159). -/
def State.handOffs (s : State) (hs : List HandOff) : State :=
  let live := hs.filter (HandOff.matters s.faults)
  { s.withFaultSide (s.faultSide.takeAll s.faultEnv (freeOrder live.length s.draws live)) with
    draws := s.draws + (live.length - 1) }

/-- The condition class of a port (R155). -/
def portClass : PortId → FaultClass
  | .a => .portAFault
  | .b => .portBFault

end Sys2Proof.Machine
end

