-- ==== Sys2Proof/Machine/Flags.lean ====
section
/-! DEFINITION. The flags and tests the rules compute from several blocks: trusted streams, standstill, the result flags
of torque commands and monitor frames, and the presence of the conditions. -/

namespace Sys2Proof.Machine

/-- A trusted state: FRESH or STALE (R23). -/
def StreamState.trusted : StreamState → Bool
  | .fresh => true
  | .stale => true
  | .unseen => false
  | .lost => false
  | .faulty => false

/-- LOST or FAULTY: the state that makes a loss condition present (R23). -/
def StreamState.out : StreamState → Bool
  | .lost => true
  | .faulty => true
  | .unseen => false
  | .fresh => false
  | .stale => false

/-- The speed a job may use: the latest speed of a FRESH or STALE stream (R24). -/
def WheelView.usable (w : WheelView) : Option Nat := if w.state.trusted then w.speed else none

/-- A wheel stream as a job reads it (R35). -/
def StreamRecord.view (r : StreamRecord) : WheelView := ⟨r.state, r.speed⟩

/-- A wheel stream is trusted and its latest speed is 30 or less (R26, case 1). -/
def StreamRecord.slow (r : StreamRecord) : Bool :=
  r.state.trusted && match r.speed with
    | some v => decide (v ≤ 30)
    | none => false

/-- Little torque is asked for: the torque request stream is not FRESH or its latest T_req' is 20 or less (R26). -/
def StreamRecord.quiet (r : StreamRecord) : Bool :=
  decide (r.state ≠ .fresh) || match r.request with
    | some t => decide (t ≤ 20)
    | none => false

/-- Standstill (R26): a machine at rest with its sensors reporting, or one whose wheel streams are both UNSEEN. -/
def State.standstill (s : State) : Bool :=
  (s.wheelFront.slow && s.wheelRear.slow && s.torqueRequest.quiet) ||
    decide (s.wheelFront.state = .unseen ∧ s.wheelRear.state = .unseen)

/-- GOVERN_DEGRADED is present in LIMP, and in START once its timer has expired (R117). -/
def Governor.degraded (g : Governor) : Bool :=
  decide (g.state = .limp) || decide (g.state = .start ∧ g.startTimer = .expired)

/-- The fault condition of a port: OFF, or a give-up streak of 3 or more (R155). -/
def Port.faultPresent (p : Port) : Bool := decide (p.mode = .off ∨ 3 ≤ p.giveUpStreak)

/-- The seven result flags (R76). -/
structure ResultFlags where
  intervened : Bool
  clampedRequest : Bool
  cutActive : Bool
  riseLimited : Bool
  late : Bool
  degraded : Bool
  pageChanged : Bool
deriving DecidableEq, Repr

/-- The torque a command carries: the smaller of the held request and C_pub (R93). -/
def State.torqueOut (s : State) (h : HeldRequest) : Nat := min h.request s.eval.published

/-- The result flags of the frames that answer a held request, as the blocks stand at the build (R76, R94). -/
def State.resultFlags (s : State) (h : HeldRequest) (late : Bool) : ResultFlags where
  intervened := decide (s.torqueOut h < h.request)
  clampedRequest := h.clamped
  cutActive := decide (0 < s.eval.cut)
  riseLimited := s.eval.riseLimited
  late := late
  degraded := decide (s.governor.state ≠ .govern)
  pageChanged := s.eval.pageChanged

/-- The four flags of a torque command in its byte 2: bit 0 INTERVENED, 1 CUT_ACTIVE, 2 LATE, 3 DEGRADED (R188). -/
def ResultFlags.commandBits (f : ResultFlags) : Byte :=
  BitVec.ofBool f.degraded ++ BitVec.ofBool f.late ++ BitVec.ofBool f.cutActive ++ BitVec.ofBool f.intervened |>.setWidth 8

/-- The seven flags of a monitor frame, in the order of R188. -/
def ResultFlags.monitorBits (f : ResultFlags) : BitVec 7 :=
  BitVec.ofBool f.intervened ++ BitVec.ofBool f.clampedRequest ++ BitVec.ofBool f.cutActive ++ BitVec.ofBool f.riseLimited ++
    BitVec.ofBool f.late ++ BitVec.ofBool f.degraded ++ BitVec.ofBool f.pageChanged

end Sys2Proof.Machine
end

