-- ==== Sys2Proof/Machine/Governor.lean ====
section
/-! DEFINITION. Governor control (06): the safe point, the decision of a CEILING job, its commit, the fall to LIMP and
the withdrawal of a GOVERN decision. -/

namespace Sys2Proof.Machine

/-! ## Safe point and decision -/

/-- The safe point (R107): little lean, or lean not valid, and a held request of 20 Nm or less. -/
def CeilingSnapshot.safePoint (n : CeilingSnapshot) : Bool :=
  (decide (n.lean.natAbs ≤ 1000) || !n.valid) && match n.request with
    | some (t, _) => decide (t ≤ 20)
    | none => false

/-- The governing inputs are ready: the three streams FRESH and lean-valid true, all in the snapshot (R108). -/
def CeilingSnapshot.inputsReady (n : CeilingSnapshot) : Bool :=
  decide (n.inertial = .fresh ∧ n.front.state = .fresh ∧ n.rear.state = .fresh) && n.valid

/-- State E at a safe point, from the snapshot state, the traction switch and the governing inputs (R108). -/
def decideState (state : GovState) (traction ready : Bool) : GovState :=
  if traction = false then .bypass
  else if ready then .govern
  else match state with
    | .start => .start
    | .govern => .govern
    | .limp => .limp
    | .bypass => .limp

/-- The decision of a CEILING job: at the safe point by R108, otherwise the snapshot state and the applied page (R109). -/
def decisionFor (store : PageStore) (n : CeilingSnapshot) : Decision :=
  if n.safePoint then
    ⟨decideState n.state n.wanted.traction n.inputsReady, store.pageFor n.wanted, n.wanted⟩
  else ⟨n.state, n.appliedPage, n.applied⟩

/-- The wanted page, read from the map whenever it is asked for (R105). -/
def State.wantedPage (s : State) : Nat := s.store.pageFor s.governor.wanted

/-- A CEILING job runs and its void mark is clear. -/
def Engine.ceilingRunning (e : Engine) : Bool :=
  match e.running with
  | some ⟨.ceiling _, isVoid⟩ => !isVoid
  | _ => false

/-- The pages in use that governor control names: the applied page, the wanted page and page G of the committing decision
while a CEILING job runs with its void mark clear (R106). -/
def State.namedInUse (s : State) (page : Nat) : Bool :=
  decide (page = s.governor.appliedPage) || decide (page = s.wantedPage) ||
    (s.engine.ceilingRunning && match s.governor.committing with
      | some d => decide (page = d.page)
      | none => false)

/-! ## Loss of a governing stream -/

/-- The fall from GOVERN to LIMP (R112), with the evaluator told of it: X becomes 0 and, while a CEILING job runs with
its void mark clear, the fold mark is set (R69, R77). -/
def State.fallToLimp (s : State) : State :=
  { s with
    governor := { s.governor with
      state := .limp
      counts := { s.governor.counts with
        falls := bump s.governor.counts.falls
        limpEntries := bump s.governor.counts.limpEntries } }
    eval := { s.eval with cut := 0, fold := s.eval.fold || s.engine.ceilingRunning } }

/-- The withdrawal of a GOVERN decision during its job (R111). -/
def State.withdraw (s : State) : State :=
  { s with
    governor := { s.governor with
      withdrawn := true
      counts := { s.governor.counts with falls := bump s.governor.counts.falls } }
    eval := { s.eval with cut := 0, fold := true } }

/-- A running CEILING job is about to commit GOVERN (R111). -/
def State.committingGovern (s : State) : Bool :=
  s.engine.ceilingRunning && match s.governor.committing with
    | some d => decide (d.state = .govern)
    | none => false

/-- A governing stream has left the trusted states: a fall from GOVERN (R112), else the withdrawal of a GOVERN decision
(R111), else nothing (R113). A decision that an earlier loss has already folded is left as it is (log 16). -/
def State.governingLoss (s : State) : State :=
  if s.governor.state = .govern then s.fallToLimp
  else if s.committingGovern && !s.eval.fold then s.withdraw
  else s

/-- What a governing loss hands to the fault unit: GOVERN_DEGRADED present at a fall, with value 0 for LIMP (R112, R157). -/
def State.lossHandOffs (s : State) : List HandOff :=
  if s.governor.state = .govern then [.present .governDegraded .absent 0] else []

/-! ## Wanted selection -/

/-- A dispatched rider selection frame writes the wanted selection; a change of any field is counted (R103). -/
def State.setWanted (s : State) (sel : Selection) : State :=
  { s with governor := { s.governor with
      wanted := sel
      counts := { s.governor.counts with
        wantedChange := bumpIf (decide (sel ≠ s.governor.wanted)) s.governor.counts.wantedChange } } }

/-! ## Commit (R110) -/

/-- The state taken at a commit: LIMP where the decision was withdrawn or the evaluator's fold mark was set, else E. -/
def committedState (d : Decision) (withdrawn folded : Bool) : GovState := if withdrawn || folded then .limp else d.state

/-- The entries counts after a change into a state (R120). -/
def GovCounts.enter (c : GovCounts) : GovState → GovCounts
  | .start => { c with startEntries := bump c.startEntries }
  | .govern => { c with governEntries := bump c.governEntries }
  | .limp => { c with limpEntries := bump c.limpEntries }
  | .bypass => { c with bypassEntries := bump c.bypassEntries }

/-- Governor control after the commit of a decision (R110, items 1 to 5). A change from START stops the START timer, an
expired one too: R110 item 3 and R116's expiry-first case say so, and R116 says elsewhere that an expired timer stays expired
(DEDUCED, log 32). -/
def Governor.commit (g : Governor) (d : Decision) (folded : Bool) : Governor :=
  let state := committedState d g.withdrawn folded
  let counts := if state ≠ g.state then g.counts.enter state else g.counts
  { g with
    applied := d.selection
    appliedPage := d.page
    state := state
    startTimer := if g.state = .start ∧ state ≠ .start then .stopped else g.startTimer
    committing := none
    withdrawn := false
    counts := { counts with
      selectionApplied := bumpIf (decide (d.selection ≠ g.applied ∨ d.page ≠ g.appliedPage)) counts.selectionApplied } }

/-- The change of GOVERN_DEGRADED that a commit hands to the fault unit (R110 item 3, R117). -/
def commitHandOffs (before after : Governor) : List HandOff :=
  if after.state = before.state then []
  else if after.degraded then [.present .governDegraded .absent 0]
  else [.absent .governDegraded]

/-- The commit within the part. -/
def State.commit (s : State) (d : Decision) (folded : Bool) : State :=
  let after := s.governor.commit d folded
  ({ s with governor := after } : State).handOffs (commitHandOffs s.governor after)

/-! ## START timer (R116) -/

/-- The START timer runs, has reached its setting and the state is START. -/
def State.startTimerDue (s : State) : Bool :=
  decide (s.governor.state = .start) && match s.governor.startTimer with
    | .running start => timerDue s.now start startSetting
    | .stopped => false
    | .expired => false

/-- START_TIMER_EXPIRY: the timer becomes expired and GOVERN_DEGRADED present, with value 1 (R116, R117, R157). A timer
that is not due does not expire (log 3). -/
def execStartTimerExpiry (s : State) : Host.Outcome State Fault Refusal :=
  .next (if s.startTimerDue then
    ({ s with governor := { s.governor with startTimer := .expired } } : State).handOff (.present .governDegraded .absent 1)
  else s)

/-- Governor control's part of a governor restart (R118). -/
def Governor.restart (g : Governor) (now : Stamp) : Governor :=
  { g with
    state := .start
    startTimer := .running now
    committing := none
    withdrawn := false
    counts := if g.state ≠ .start then g.counts.enter .start else g.counts }

end Sys2Proof.Machine
end

