-- ==== Sys2Proof/Machine/Engine.lean ====
section
/-! DEFINITION. The evaluation engine (02): asks, the choice of a job, snapshots and void marks. -/

namespace Sys2Proof.Machine

/-! ## Snapshots (R35) -/

/-- The snapshot of a CEILING job. -/
def State.ceilingSnapshot (s : State) : CeilingSnapshot where
  lean := s.lean.lean
  valid := s.lean.valid
  front := s.wheelFront.view
  rear := s.wheelRear.view
  inertial := s.inertial.state
  cut := s.eval.cut
  published := s.eval.published
  state := s.governor.state
  wanted := s.governor.wanted
  applied := s.governor.applied
  appliedPage := s.governor.appliedPage
  request := s.forwarder.slot.map (fun h => (h.request, h.clamped))
  frontRadius := s.store.chassis.frontRadius
  rearRadius := s.store.chassis.rearRadius

/-- The nominal period of the INERTIAL route entry. No LEAN job starts without an ENABLED one; the blank period stands
for that case (log 17). -/
def State.nominalPeriod (s : State) : Nat :=
  match s.enabledOf .inertial with
  | some i => (s.route i).fields.nominalPeriod
  | none => blankFields.nominalPeriod

/-- The snapshot of a LEAN job that takes a sample. -/
def State.leanSnapshot (s : State) (sample : Sample) : LeanSnapshot where
  sample := sample
  lean := s.lean.lean
  valid := s.lean.valid
  tPrev := s.lean.tPrev
  front := s.wheelFront.view
  rear := s.wheelRear.view
  nominalPeriod := s.nominalPeriod
  normalGain := s.appliedPage.normalGain
  slideGain := s.appliedPage.slideGain
  slideThreshold := s.appliedPage.slideThreshold

/-- The table that a SEAL_STEP checks: ceiling row, slip-target row, brake row, then scalars (R32, R126). -/
def Page.stepTable (p : Page) (step : Nat) : List Nat :=
  if step = 1 then p.ceiling else if step = 2 then p.slipTarget else if step = 3 then p.brake else p.scalars

/-- The snapshot of a SEAL_STEP job: its table and the hard ceiling that its checks compare against. -/
def State.sealSnapshot (s : State) (r : SealRecord) : SealSnapshot :=
  ⟨r.page, r.step, (s.store.page r.page).stepTable r.step, (s.store.page r.page).hardCeiling⟩

/-! ## Starting a job (R33) -/

/-- A CEILING job starts: its flag is cleared, its snapshot taken, and governor control forms the committing decision
(R33, R61, R107 to R109). -/
def State.startCeiling (s : State) : State :=
  let n := s.ceilingSnapshot
  { s with
    engine := { s.engine with
      running := some ⟨.ceiling n, false⟩
      ceilingPending := false
      counts := { s.engine.counts with startedCeiling := bump s.engine.counts.startedCeiling } }
    governor := { s.governor with
      committing := some (decisionFor s.store n)
      withdrawn := false
      counts := { s.governor.counts with safePoints := bumpIf n.safePoint s.governor.counts.safePoints } } }

/-- A LEAN job starts with the oldest sample (R31, R33). -/
def State.startLean (s : State) (sample : Sample) (rest : List Sample) : State :=
  { s with
    engine := { s.engine with
      running := some ⟨.lean (s.leanSnapshot sample), false⟩
      counts := { s.engine.counts with startedLean := bump s.engine.counts.startedLean } }
    lean := { s.lean with queue := rest } }

/-- A SEAL_STEP job starts (R32, R33). -/
def State.startSeal (s : State) (r : SealRecord) : State :=
  { s with
    engine := { s.engine with
      running := some ⟨.sealStep (s.sealSnapshot r), false⟩
      sealPending := false
      counts := { s.engine.counts with startedSeal := bump s.engine.counts.startedSeal } } }

/-- The pending SEAL_STEP, if any, starts. A pending flag stands with a seal record (R32). -/
def State.chooseSeal (s : State) : State :=
  match s.engine.sealPending, s.store.sealRecord with
  | true, some r => s.startSeal r
  | _, _ => s

/-- The choice of R33: when IDLE, CEILING if its flag is set, otherwise LEAN if a sample waits, otherwise SEAL_STEP. With
nothing pending, or a job running, nothing changes. -/
def State.choose (s : State) : State :=
  match s.engine.running with
  | some _ => s
  | none =>
    if s.engine.ceilingPending then s.startCeiling
    else match s.lean.queue with
      | sample :: rest => s.startLean sample rest
      | [] => s.chooseSeal

/-- What follows an ask: an IDLE engine chooses at once (R30, R31, R32). One place for the convention of log 2. -/
def State.afterAsk (s : State) : State := s.choose

/-! ## Asks -/

/-- The forwarder asks for a CEILING job (R30): absorbed when one is pending or runs with its void mark clear. -/
def State.askCeiling (s : State) : State :=
  if s.engine.ceilingPending || s.engine.ceilingRunning then s
  else ({ s with engine := { s.engine with ceilingPending := true } } : State).afterAsk

/-- The page store asks for a SEAL_STEP job (R32). -/
def State.askSeal (s : State) : State :=
  ({ s with engine := { s.engine with sealPending := true } } : State).afterAsk

/-! ## Completion and void results -/

/-- The engine becomes IDLE and chooses again (R34). -/
def State.finishJob (s : State) : State :=
  ({ s with engine := { s.engine with running := none } } : State).choose

/-- A void completion makes no hand-off and is counted; the fold mark, which is cleared at every CEILING completion, is
clear after a void one too (R36, R77). -/
def State.finishVoid (s : State) (ceiling : Bool) : State :=
  ({ s with
    engine := { s.engine with counts := { s.engine.counts with voids := bump s.engine.counts.voids } }
    eval := { s.eval with fold := s.eval.fold && !ceiling } } : State).finishJob

/-- A running LEAN job becomes void (R36). -/
def Engine.voidLean (e : Engine) : Engine :=
  { e with running := e.running.map (fun j => match j.job with
      | .lean _ => { j with isVoid := true }
      | .ceiling _ => j
      | .sealStep _ => j) }

/-- The engine at a governor restart: a running LEAN or CEILING job is void and the CEILING flag is clear (R36). -/
def Engine.restart (e : Engine) : Engine :=
  { e with
    ceilingPending := false
    running := e.running.map (fun j => match j.job with
      | .lean _ => { j with isVoid := true }
      | .ceiling _ => { j with isVoid := true }
      | .sealStep _ => j) }

/-- JOB_START (R33): the engine's choice. In every state a command leaves, the choice has been made at once already
(log 2). -/
def execJobStart (s : State) : Host.Outcome State Fault Refusal := .next s.choose

end Sys2Proof.Machine
end

