-- ==== Sys2Proof/Machine/Estimator.lean ====
section
/-! DEFINITION. The lean estimator (03): the sample queue, the LEAN job's arithmetic, its completion, the brake ceiling
and the lean report. -/

namespace Sys2Proof.Machine

/-! ## The inertial sample queue -/

/-- The oldest waiting sample is pushed out: counted, and INERTIAL_OVERRUN raised with its stamp (R39). -/
def State.overrun (s : State) (oldest : Sample) (rest : List Sample) : State :=
  ({ s with lean := { s.lean with
      queue := rest
      counts := { s.lean.counts with overrun := bump s.lean.counts.overrun } } } : State).handOff
    (.event .inertialOverrun (s.routeSource .inertial) oldest.stamp)

/-- A full queue makes room by losing its oldest sample (R39). -/
def State.makeRoom (s : State) : State :=
  if sampleDepth ≤ s.lean.queue.length then
    match s.lean.queue with
    | oldest :: rest => s.overrun oldest rest
    | [] => s
  else s

/-- A sample joins the tail of the queue and is counted (R38). -/
def State.appendSample (s : State) (x : Sample) : State :=
  { s with lean := { s.lean with
      queue := s.lean.queue ++ [x]
      counts := { s.lean.counts with queued := bump s.lean.counts.queued } } }

/-- An accepted sample joins the queue and is an ask for a LEAN job (R31, R38, R39). -/
def State.joinSample (s : State) (x : Sample) : State := (s.makeRoom.appendSample x).afterAsk

/-- The queue emptied, its samples counted as flushed (R40). -/
def LeanState.flush (l : LeanState) : LeanState :=
  { l with queue := [], counts := { l.counts with flushed := bumpBy l.counts.flushed l.queue.length } }

/-- The invalidation of the estimate when the inertial stream leaves the trusted states (R50, R36). -/
def State.invalidateLean (s : State) : State :=
  { s with
    lean := { s.lean.flush with valid := false, tPrev := none, saturated := false }
    engine := s.engine.voidLean }

/-- The estimator's part of a governor restart (R51). -/
def LeanState.restart (l : LeanState) : LeanState :=
  { l.flush with lean := 0, valid := false, tPrev := none, saturated := false, decimation := 0, reportAlive := 0 }

/-! ## The LEAN job's arithmetic (R41 to R48) -/

/-- The interval dt in ms (R41). -/
def LeanSnapshot.interval (n : LeanSnapshot) : Int :=
  match n.tPrev with
  | some t => clampInt 5 40 (ageOf n.sample.stamp t)
  | none => n.nominalPeriod

/-- The prediction P (R42). -/
def LeanSnapshot.prediction (n : LeanSnapshot) : Int := n.lean + (n.sample.roll * n.interval).tdiv 100

/-- The reference speed: the front speed if usable, otherwise the rear speed (R43). None marks REF_UNAVAILABLE. -/
def LeanSnapshot.referenceSpeed (n : LeanSnapshot) : Option Nat :=
  match n.front.usable with
  | some v => some v
  | none => n.rear.usable

/-- The centripetal index c at a speed, clamped to 3 g (R44). -/
def centripetalIndex (yaw : Int) (v : Nat) : Int := clampInt (-300) 300 ((yaw * v).tdiv 2023)

/-- The lean reference table read at |c| (R45). -/
def leanReference (c : Nat) : Nat :=
  let i := c / 5
  let f := c % 5
  if 60 ≤ i then leanTable.getD 60 0
  else leanTable.getD i 0 + ((leanTable.getD (i + 1) 0 - leanTable.getD i 0) * f) / 5

/-- The reference lean R at a speed: 0 below 10 km/h, otherwise the table's angle with the sign of c (R45). -/
def referenceLean (yaw : Int) (v : Nat) : Int :=
  if v < 100 then 0
  else
    let c := centripetalIndex yaw v
    c.sign * leanReference c.natAbs

/-- The job uses the slide gain: below 10 km/h, sliding, or without a reference (R46). -/
def LeanSnapshot.usesSlideGain (n : LeanSnapshot) : Bool :=
  match n.referenceSpeed with
  | none => true
  | some v => decide (v < 100) || decide (n.slideThreshold < n.sample.lateral.natAbs)

/-- The gain k (R46). -/
def LeanSnapshot.gain (n : LeanSnapshot) : Nat := if n.usesSlideGain then n.slideGain else n.normalGain

/-- The blend, before the clamp (R47): from a valid estimate the prediction pulled toward the reference, else a full take,
else 0. Without a reference R equals P (R43). -/
def LeanSnapshot.blend (n : LeanSnapshot) : Int :=
  match n.referenceSpeed with
  | some v =>
    let r := referenceLean n.sample.yaw v
    if n.valid then n.prediction + ((r - n.prediction) * n.gain).tdiv 256 else r
  | none => if n.valid then n.prediction else 0

/-- What a LEAN job hands to the estimator. -/
structure LeanResult where
  lean : Int
  valid : Bool
  saturated : Bool
  referenceUnavailable : Bool
  slide : Bool
  fullTake : Bool
deriving DecidableEq, Repr

/-- The results of a LEAN job (R43, R46 to R48). -/
def LeanSnapshot.result (n : LeanSnapshot) : LeanResult where
  lean := clampInt (-leanLimit) leanLimit n.blend
  valid := n.valid || n.referenceSpeed.isSome
  saturated := decide (clampInt (-leanLimit) leanLimit n.blend ≠ n.blend)
  referenceUnavailable := n.referenceSpeed.isNone
  slide := n.usesSlideGain
  fullTake := !n.valid && n.referenceSpeed.isSome

/-! ## Completion (R49) -/

/-- The estimator's writes, items 1 to 5 (R49). -/
def LeanState.write (l : LeanState) (n : LeanSnapshot) : LeanState :=
  let r := n.result
  { l with
    lean := r.lean
    valid := r.valid
    saturated := r.saturated
    tPrev := some n.sample.stamp
    counts := { l.counts with
      referenceUnavailable := bumpIf r.referenceUnavailable l.counts.referenceUnavailable
      slideGain := bumpIf r.slide l.counts.slideGain
      fullTake := bumpIf r.fullTake l.counts.fullTake } }

/-- The change of LEAN_SATURATION that a completion hands to the fault unit: present with the clamped L_new while the
flag is set, absent while it is clear (R48, R157). -/
def State.saturationHandOff (s : State) : HandOff :=
  if s.lean.saturated then .present .leanSaturation (s.routeSource .inertial) (BitVec.ofInt 16 s.lean.lean)
  else .absent .leanSaturation

/-- The brake pressure ceiling: the applied page's brake row at L and lean-valid as they stand (R53, R54). -/
def State.brakeCeiling (s : State) : Nat := readRow s.appliedPage.brake 12 (lookupLean s.lean.lean s.lean.valid)

/-- The lean report as the blocks stand, packed by R188, with its alive counter and check byte (R56, R57). -/
def State.leanReport (s : State) : Frame :=
  let w : BitVec 56 :=
    BitVec.ofInt 11 (leanTenths s.lean.lean) ++ BitVec.ofInt 11 s.eval.slip ++ BitVec.ofNat 9 s.eval.published ++
      BitVec.ofNat 8 s.eval.cut ++ BitVec.ofNat 8 s.brakeCeiling ++ BitVec.ofNat 2 s.governor.state.code ++
      BitVec.ofBool s.lean.valid ++ BitVec.ofBool s.eval.slipValid ++ BitVec.ofBool s.faults.summary ++ s.lean.reportAlive
  protectedFrame leanReportId (packedBytes w)

/-- The report's copies: to Port B's Q2, and to Port A's Q2 when the switch is on, each counted (R58). The report alive
counter advances once for the report (R57). -/
def State.sendReport (s : State) : State :=
  let f := s.leanReport
  let copies := if s.store.chassis.reportToA then 2 else 1
  let counted : State := { s with lean := { s.lean with
      reportAlive := s.lean.reportAlive + 1
      counts := { s.lean.counts with reportCopies := bumpBy s.lean.counts.reportCopies copies } } }
  let toB := counted.offer .b .q2 f
  if s.store.chassis.reportToA then toB.offer .a .q2 f else toB

/-- The decimation count advances; at N or more a report falls due and the count becomes 0 (R55). -/
def State.decimate (s : State) : State :=
  if s.store.chassis.decimation ≤ s.lean.decimation + 1 then
    ({ s with lean := { s.lean with decimation := 0 } } : State).sendReport
  else { s with lean := { s.lean with decimation := s.lean.decimation + 1 } }

/-- The hand-off of a LEAN completion: the writes, the fault unit's view of LEAN_SATURATION, then the decimation (R49). -/
def State.leanHandOff (s : State) (n : LeanSnapshot) : State :=
  let written : State := { s with lean := s.lean.write n }
  (written.handOff written.saturationHandOff).decimate

/-- LEAN_COMPLETION (R49): the running LEAN job completes, without hand-off when void (R36). With no LEAN job running
there is nothing to complete (log 6). -/
def execLeanCompletion (s : State) : Host.Outcome State Fault Refusal :=
  .next (match s.engine.running with
    | some ⟨.lean n, isVoid⟩ => if isVoid then s.finishVoid false else (s.leanHandOff n).finishJob
    | _ => s)

end Sys2Proof.Machine
end

