-- ==== Sys2Proof/Machine/Forwarder.lean ====
section
/-! DEFINITION. The torque forwarder (05): entry and supersede, the torque command, the monitor frame, completion and
expiry. -/

namespace Sys2Proof.Machine

/-! ## Arrival (R84, R86, R87) -/

/-- The record of a request that enters the slot: every field is fixed at entry (R84). -/
def heldRequest (index : Nat) (e : RouteFields) (received : Ident) (request : Nat) (clamped : Bool) (stamp : Stamp) :
    HeldRequest where
  request := request
  clamped := clamped
  stamp := stamp
  route := index
  holdLimit := e.holdLimit
  outbound := e.rewrite.getD received

/-- A request enters the empty slot, or supersedes the held one; the hold timer starts anew (R86, R87). -/
def Forwarder.enter (f : Forwarder) (h : HeldRequest) : Forwarder :=
  { f with
    slot := some h
    holdTimer := some 0
    counts := { f.counts with
      entered := bump f.counts.entered
      superseded := bumpIf f.slot.isSome f.counts.superseded } }

/-- A request enters or supersedes, and the forwarder asks for a CEILING job (R86, R87). -/
def State.enterRequest (s : State) (h : HeldRequest) : State :=
  ({ s with forwarder := s.forwarder.enter h } : State).askCeiling

/-! ## Frames (R93 to R95, R98, R188) -/

/-- The torque command that answers a held request (R93 to R95, R188). -/
def State.torqueCommand (s : State) (h : HeldRequest) (late : Bool) : Frame :=
  protectedFrame h.outbound
    (twoBytes (s.torqueOut h) ++
      [(s.resultFlags h late).commandBits, 0, 0, 0, s.forwarder.alive.setWidth 8])

/-- The monitor frame that copies the command for a held request, with the command's alive value (R98, R188). -/
def State.monitorFrame (s : State) (h : HeldRequest) (late : Bool) : Frame :=
  let w : BitVec 56 :=
    BitVec.ofNat 9 h.request ++ BitVec.ofNat 9 (s.torqueOut h) ++ BitVec.ofInt 11 (leanTenths s.lean.lean) ++
      BitVec.ofNat 8 s.eval.cut ++ (s.resultFlags h late).monitorBits ++ (0 : BitVec 8) ++ s.forwarder.alive
  protectedFrame monitorId (packedBytes w)

/-! ## Answering a held request (R89, R90) -/

/-- The forwarder after it has answered: the slot empty, the timer stopped, the alive counter advanced, the counts raised
where they apply (R89, R90, R95, R101). -/
def Forwarder.answered (f : Forwarder) (late intervened : Bool) : Forwarder :=
  { f with
    slot := none
    holdTimer := none
    alive := f.alive + 1
    counts := { f.counts with
      completionBuilt := bumpIf (!late) f.counts.completionBuilt
      expiryBuilt := bumpIf late f.counts.expiryBuilt
      intervened := bumpIf intervened f.counts.intervened
      monitor := bumpIf f.monitorOn f.counts.monitor } }

/-- The held request answered: its torque command offered to Port B's Q3, and, while the monitor is on, its monitor frame
to Port A's Q0 (R89, R90, R96, R98). -/
def State.answer (s : State) (h : HeldRequest) (late : Bool) : State :=
  let command := s.torqueCommand h late
  let monitor := s.monitorFrame h late
  let done : State := { s with forwarder := s.forwarder.answered late (s.resultFlags h late).intervened }
  let sent := done.offer .b .q3 command
  if s.forwarder.monitorOn then sent.offer .a .q0 monitor else sent

/-- The forwarder's part of a CEILING completion: a full slot is answered, an empty one builds nothing (R89). -/
def State.answerAtCompletion (s : State) : State :=
  match s.forwarder.slot with
  | some h => s.answer h false
  | none => s

/-- The held request answered late, and HOLD_EXPIRY raised with its route index and its T_req' (R90). -/
def State.answerLate (s : State) (h : HeldRequest) : State :=
  (s.answer h true).handOff (.event .holdExpiry (.route h.route) (BitVec.ofNat 16 h.request))

/-! ## The hold timer (R85) -/

/-- The hold timer runs and has reached the hold limit of the held request (R85). -/
def Forwarder.holdDue (f : Forwarder) : Bool :=
  match f.slot, f.holdTimer with
  | some h, some age => decide (h.holdLimit ≤ age)
  | _, _ => false

/-- Some steps of 0.1 ms pass on the hold timer while it runs. A timer that is due stands at its limit (R85; log 5). -/
def Forwarder.elapse (f : Forwarder) (steps : Nat) : Forwarder :=
  match f.slot, f.holdTimer with
  | some h, some age => { f with holdTimer := some (min (age + steps) h.holdLimit) }
  | _, _ => f

/-- The hold expiry, when it is due: the held request is answered late. After a supersede, a completion or a restart the
timer is not due, and the expiry does nothing (R85, R91, R92, R99). -/
def State.expireHold (s : State) : State :=
  match s.forwarder.holdDue, s.forwarder.slot with
  | true, some h => s.answerLate h
  | _, _ => s

/-- HOLD_EXPIRY (R90), once the hold limit has elapsed (R85; log 3). -/
def execHoldExpiry (s : State) : Host.Outcome State Fault Refusal := .next s.expireHold

/-- The forwarder's part of a governor restart (R99). -/
def Forwarder.restart (f : Forwarder) : Forwarder :=
  { f with
    slot := none
    holdTimer := none
    alive := 0
    counts := { f.counts with restartDiscarded := bumpIf f.slot.isSome f.counts.restartDiscarded } }

end Sys2Proof.Machine
end

