-- ==== Sys2Proof/Machine/CeilingEvaluator.lean ====
section
/-! DEFINITION. The ceiling evaluator (04): slip, traction cut, ceiling by state, rise limit, the fold, and the completion
of a CEILING job. -/

namespace Sys2Proof.Machine

/-! ## The evaluation (R62 to R73), on snapshot values with state E and page G -/

/-- The lean of every row lookup of the job (R62). -/
def CeilingSnapshot.rowLean (n : CeilingSnapshot) : Nat := lookupLean n.lean n.valid

/-- A corrected wheel speed: the speed times the radius factor, over 4096 (R64). -/
def correctedSpeed (v factor : Nat) : Nat := v * factor / 4096

/-- Slip from the corrected speeds, in 0.1 %, clamped (R65). -/
def slipOf (front rear : Nat) : Int := clampInt (-1000) 1000 ((((rear : Int) - front) * 1000).tdiv front)

/-- The slip of the evaluation; none when slip is not valid: a wheel stream is out, or the corrected front speed is below
50 (R63 to R65). -/
def CeilingSnapshot.slip (n : CeilingSnapshot) : Option Int :=
  match n.front.usable, n.rear.usable with
  | some f, some r =>
    let front := correctedSpeed f (readRow n.frontRadius 13 n.rowLean)
    let rear := correctedSpeed r (readRow n.rearRadius 13 n.rowLean)
    if front < 50 then none else some (slipOf front rear)
  | _, _ => none

/-- The slip target S_T of page G (R66). -/
def CeilingSnapshot.slipTarget (n : CeilingSnapshot) (g : Page) : Nat := readRow g.slipTarget 12 n.rowLean

/-- The lean ceiling C_L of page G (R66). -/
def CeilingSnapshot.leanCeiling (n : CeilingSnapshot) (g : Page) : Nat := readRow g.ceiling 12 n.rowLean

/-- The new cut in GOVERN: it grows while slip is valid and above its target, and decays otherwise (R67, R68). -/
def CeilingSnapshot.governCut (n : CeilingSnapshot) (g : Page) : Nat :=
  match n.slip with
  | some x =>
    if (n.slipTarget g : Int) < x then
      min (n.cut + (((x - n.slipTarget g) * g.cutGrowth).tdiv 16).toNat) cutLimit
    else n.cut - g.cutDecay
  | none => n.cut - g.cutDecay

/-- The new cut of the evaluation: 0 unless state E is GOVERN (R67 to R69). -/
def CeilingSnapshot.newCut (n : CeilingSnapshot) (e : GovState) (g : Page) : Nat :=
  if e = .govern then n.governCut g else 0

/-- The limp ceiling, bounded by the lean ceiling while lean-valid is true (R71). -/
def CeilingSnapshot.limpBound (n : CeilingSnapshot) (g : Page) : Nat :=
  if n.valid then min (n.leanCeiling g) g.limpCeiling else g.limpCeiling

/-- The ceiling C by governor state (R70 to R72). -/
def CeilingSnapshot.ceiling (n : CeilingSnapshot) (e : GovState) (g : Page) : Nat :=
  match e with
  | .govern => n.leanCeiling g - n.newCut e g
  | .start => n.limpBound g
  | .limp => n.limpBound g
  | .bypass => g.hardCeiling

/-- What a CEILING job hands to the evaluator. -/
structure CeilingResult where
  published : Nat
  cut : Nat
  slip : Int
  slipValid : Bool
  riseLimited : Bool
deriving DecidableEq, Repr

/-- The published ceiling within the rise limit (R73), or by the fold rule when the fold mark is set (R78). -/
def CeilingSnapshot.result (n : CeilingSnapshot) (e : GovState) (g : Page) (folded : Bool) (liveCut : Nat) : CeilingResult :=
  let c := n.ceiling e g
  let risen := n.published + g.riseMax
  { published := if folded then min (min c g.limpCeiling) risen else min c risen
    cut := if folded then liveCut else n.newCut e g
    slip := n.slip.getD 0
    slipValid := n.slip.isSome
    riseLimited := if folded then decide (risen < c ∧ risen < g.limpCeiling) else decide (risen < c) }

/-! ## Completion (R74, R78) -/

/-- The evaluator's writes at a completion, the fold mark cleared (R74 items 1 to 6; R83). The cut-growth count rises when
X has grown (log 10). -/
def Evaluator.write (v : Evaluator) (n : CeilingSnapshot) (d : Decision) (g : Page) : Evaluator :=
  let r := n.result d.state g v.fold v.cut
  { cut := r.cut
    published := r.published
    slip := r.slip
    slipValid := r.slipValid
    riseLimited := r.riseLimited
    pageChanged := decide (d.page ≠ n.appliedPage)
    fold := false
    counts := { v.counts with
      evaluations := bump v.counts.evaluations
      slipNotValid := bumpIf (!r.slipValid) v.counts.slipNotValid
      cutGrowth := bumpIf (!v.fold && decide (n.cut < r.cut)) v.counts.cutGrowth
      riseLimited := bumpIf r.riseLimited v.counts.riseLimited
      folded := bumpIf v.fold v.counts.folded } }

/-- The decision a CEILING completion commits. A running job whose void mark is clear has one (R109); the snapshot's state,
page and selection stand for the case that it has not (log 17). -/
def State.decisionOf (s : State) (n : CeilingSnapshot) : Decision :=
  match s.governor.committing with
  | some d => d
  | none => ⟨n.state, n.appliedPage, n.applied⟩

/-- The hand-off of a CEILING completion in its three parts: evaluator, governor control, torque forwarder (R74). -/
def State.ceilingHandOff (s : State) (n : CeilingSnapshot) : State :=
  let d := s.decisionOf n
  let written : State := { s with eval := s.eval.write n d (s.store.page d.page) }
  (written.commit d s.eval.fold).answerAtCompletion

/-- CEILING_COMPLETION (R74): the running CEILING job completes, without hand-off when void (R36). With no CEILING job
running there is nothing to complete (log 6). -/
def execCeilingCompletion (s : State) : Host.Outcome State Fault Refusal :=
  .next (match s.engine.running with
    | some ⟨.ceiling n, isVoid⟩ => if isVoid then s.finishVoid true else (s.ceilingHandOff n).finishJob
    | _ => s)

/-- The evaluator's part of a governor restart; C_pub takes the limp ceiling of the applied page (R82). -/
def Evaluator.restart (v : Evaluator) (limpCeiling : Nat) : Evaluator :=
  { v with
    cut := 0
    published := limpCeiling
    slip := 0
    slipValid := false
    riseLimited := false
    pageChanged := false
    fold := false }

end Sys2Proof.Machine
end

