-- ==== Sys2Proof/Machine/Supervisor.lean ====
section
/-! DEFINITION. The stream supervisor (01, sections 1.5 to 1.8): the checks, acceptance and rejection, the stream states,
dispatch, and the expiries that age a stream. -/

namespace Sys2Proof.Machine

/-! ## The stream record (R16 to R22) -/

/-- What entry to LOST and FAULTY share: the optional fields absent, the counts 0, the history empty, the timers stopped
(R19, R20). -/
def StreamRecord.leave (r : StreamRecord) (state : StreamState) : StreamRecord :=
  { r with
    state := state
    lastAlive := none
    stepReference := none
    rejects := 0
    history := []
    recovery := 0
    staleTimer := none
    lostTimer := none }

/-- Both timers start from a stamp with the entry's times (R17). -/
def StreamRecord.startTimers (r : StreamRecord) (e : RouteFields) (stamp : Stamp) : StreamRecord :=
  { r with staleTimer := some ⟨stamp, e.staleTime⟩, lostTimer := some ⟨stamp, e.lostTime⟩ }

/-- The record becomes FRESH from UNSEEN, LOST or FAULTY: an empty history, no recovery, timers running (R17, R21). -/
def StreamRecord.becomeFresh (r : StreamRecord) (e : RouteFields) (stamp : Stamp) : StreamRecord :=
  ({ r with state := .fresh, recovery := 0, history := [] } : StreamRecord).startTimers e stamp

/-- A rejected frame (R16). -/
def StreamRecord.reject (r : StreamRecord) : StreamRecord :=
  match r.state with
  | .unseen => { r with rejects := min (r.rejects + 1) 4 }
  | .fresh => if 4 ≤ r.rejects + 1 then r.leave .faulty else { r with rejects := r.rejects + 1 }
  | .stale => if 4 ≤ r.rejects + 1 then r.leave .faulty else { r with rejects := r.rejects + 1 }
  | .lost => { r with recovery := 0 }
  | .faulty => { r with recovery := 0 }

/-- The sequence history with a mark added, at most 16 marks, the oldest leaving (01, section 1.7). -/
def addMark (history : List Bool) (mark : Bool) : List Bool :=
  let h := history ++ [mark]
  h.drop (h.length - 16)

/-- The first five effects of acceptance on the record: values, step reference, alive counter, stamp, reject count (R17). -/
def StreamRecord.store (r : StreamRecord) (e : RouteFields) (v : Values) (alive : Alive) (stamp : Stamp) : StreamRecord :=
  { r with
    latest := some v
    stepReference := some v
    lastAlive := if e.isProtected then some alive else r.lastAlive
    stamp := stamp
    rejects := 0 }

/-- An accepted frame of a FRESH or STALE stream: its mark joins the history, and the third set mark makes the stream FAULTY
(R17, R20). -/
def StreamRecord.acceptTrusted (r : StreamRecord) (e : RouteFields) (stamp : Stamp) (sequenceError : Bool) : StreamRecord :=
  let h := addMark r.history sequenceError
  if 3 ≤ h.count true then r.leave .faulty
  else ({ r with state := .fresh, history := h } : StreamRecord).startTimers e stamp

/-- An accepted frame of a LOST or FAULTY stream: the eighth one counted returns it to FRESH (R17, R21). -/
def StreamRecord.acceptRecovering (r : StreamRecord) (e : RouteFields) (stamp : Stamp) (sequenceError : Bool) : StreamRecord :=
  if sequenceError then { r with recovery := 0 }
  else if 8 ≤ r.recovery + 1 then r.becomeFresh e stamp
  else { r with recovery := r.recovery + 1 }

/-- An accepted frame (R17). -/
def StreamRecord.accept (r : StreamRecord) (e : RouteFields) (v : Values) (alive : Alive) (stamp : Stamp) (sequenceError : Bool) :
    StreamRecord :=
  let stored := r.store e v alive stamp
  match r.state with
  | .unseen => stored.becomeFresh e stamp
  | .fresh => stored.acceptTrusted e stamp sequenceError
  | .stale => stored.acceptTrusted e stamp sequenceError
  | .lost => stored.acceptRecovering e stamp sequenceError
  | .faulty => stored.acceptRecovering e stamp sequenceError

/-- A flood expiry told to a stream (R9, R20). -/
def StreamRecord.flood (r : StreamRecord) : StreamRecord :=
  match r.state with
  | .unseen => r
  | .fresh => r.leave .faulty
  | .stale => r.leave .faulty
  | .lost => { r with recovery := 0 }
  | .faulty => { r with recovery := 0 }

/-! ## What a change of a stream's state does to the other blocks (R23) -/

/-- The value of a stream condition: 1 if the stream is LOST, 2 if FAULTY (R157). -/
def outValue (st : StreamState) : Half := if st = .lost then 1 else 2

/-- The hand-off that re-evaluates the condition a stream bears on: INERTIAL_LOSS or WHEEL_LOSS present through this
stream, or absent once no stream holds it (R23, R158). The other two streams bear on none. -/
def State.streamHandOffs (s : State) (i : StreamId) (source : Source) : List HandOff :=
  match i with
  | .inertial =>
    if s.inertial.state.out then [.present .inertialLoss source (outValue s.inertial.state)] else [.absent .inertialLoss]
  | .wheelFront =>
    if s.wheelFront.state.out then [.present .wheelLoss source (outValue s.wheelFront.state)]
    else if s.wheelRear.state.out then [] else [.absent .wheelLoss]
  | .wheelRear =>
    if s.wheelRear.state.out then [.present .wheelLoss source (outValue s.wheelRear.state)]
    else if s.wheelFront.state.out then [] else [.absent .wheelLoss]
  | .torqueRequest => []
  | .riderSelect => []

/-- The owners' writes when a stream leaves the trusted states: the estimator drops the estimate, governor control acts on
the loss (R23, R50, R111, R112). -/
def State.leaveTrusted (s : State) (i : StreamId) : State :=
  match i with
  | .inertial => s.invalidateLean.governingLoss
  | .wheelFront => s.governingLoss
  | .wheelRear => s.governingLoss
  | .torqueRequest => s
  | .riderSelect => s

/-- The hand-offs of the owners when a stream leaves the trusted states, decided on the state before their writes. -/
def State.leaveHandOffs (s : State) (i : StreamId) : List HandOff :=
  match i with
  | .inertial => .absent .leanSaturation :: s.lossHandOffs
  | .wheelFront => s.lossHandOffs
  | .wheelRear => s.lossHandOffs
  | .torqueRequest => []
  | .riderSelect => []

/-- A stream record replaced, with what its change of state does to the estimator and governor control, and the hand-offs
that the event owes the fault unit (R23). -/
def State.moveStream (s : State) (i : StreamId) (source : Source) (r : StreamRecord) : State × List HandOff :=
  let before := (s.stream i).state
  let moved := s.setStream i r
  if before.trusted ∧ r.state.trusted = false then
    (moved.leaveTrusted i, moved.streamHandOffs i source ++ moved.leaveHandOffs i)
  else if before.trusted ≠ r.state.trusted ∨ before.out ≠ r.state.out then (moved, moved.streamHandOffs i source)
  else (moved, [])

/-! ## The checks (R11 to R15) -/

/-- The first failing signal's raw value, among signals each with its window and its step reference (R14). -/
def firstFailing : List (Int × Window × Option Int) → Option Int
  | [] => none
  | (x, w, reference) :: rest =>
    if x < w.lower ∨ w.upper < x then some x
    else
      let stepFails := match w.maxStep, reference with
        | some m, some y => decide (m < (x - y).natAbs)
        | _, _ => false
      if stepFails then some x else firstFailing rest

/-- A window of the bounds table by number: roll 0, yaw 1, lateral 2, front 3, rear 4, torque 5 (R189). -/
def Chassis.window (c : Chassis) (i : Nat) : Window := c.windows.getD i ⟨0, 0, none⟩

/-- The fixed window of a rider selection field (R14). -/
def fixedWindow (upper : Int) : Window := ⟨0, upper, none⟩

/-- The signals of a frame with their windows and step references (R14). A torque request has no check (R15). -/
def checkedSignals (c : Chassis) (i : StreamId) (v : Values) (reference : Option Values) : List (Int × Window × Option Int) :=
  match v with
  | .inertial roll yaw lateral =>
    let r := match reference with
      | some (.inertial a b d) => some (a, b, d)
      | _ => none
    [(roll, c.window 0, r.map (·.1)), (yaw, c.window 1, r.map (·.2.1)), (lateral, c.window 2, r.map (·.2.2))]
  | .speed x =>
    let r := match reference with
      | some (.speed y) => some (y : Int)
      | _ => none
    [((x : Int), if i = .wheelFront then c.window 3 else c.window 4, r)]
  | .selection mode load _ => [((mode : Int), fixedWindow 3, none), ((load : Int), fixedWindow 2, none)]
  | .torque _ _ => []

/-- The torque request clamped to the torque window, with the clamped flag (R15); other values as they are. -/
def clampTorque (c : Chassis) (v : Values) : Values :=
  match v with
  | .torque t _ =>
    let x := (clampInt (c.window 5).lower (c.window 5).upper t).toNat
    .torque x (decide (x ≠ t))
  | .inertial a b d => .inertial a b d
  | .speed x => .speed x
  | .selection m l t => .selection m l t

/-- The values carry a set clamped flag (R15). -/
def Values.isClamped : Values → Bool
  | .torque _ clamped => clamped
  | .inertial _ _ _ => false
  | .speed _ => false
  | .selection _ _ _ => false

/-- What the checks make of a frame of a consuming class. -/
inductive Verdict where
  | rejected (cls : FaultClass) (value : Half)
  | duplicate
  | accepted (values : Values) (sequenceError : Bool)
deriving DecidableEq, Repr

/-- The bound and step checks, after the protection checks (R14, R15). -/
def judgeSignals (c : Chassis) (i : StreamId) (r : StreamRecord) (data : List Byte) (sequenceError : Bool) : Verdict :=
  let v := valuesOf i data
  match firstFailing (checkedSignals c i v r.stepReference) with
  | some x => .rejected .signalImplausible (BitVec.ofInt 16 x)
  | none => .accepted (clampTorque c v) sequenceError

/-- The checks of a frame admitted by the budget, in order: length, check byte, alive counter, bounds and step (R11 to R15). -/
def judge (c : Chassis) (i : StreamId) (r : StreamRecord) (e : RouteFields) (f : Frame) : Verdict :=
  if f.data.length < 8 then .rejected .signalImplausible (BitVec.ofNat 16 f.data.length)
  else if e.isProtected = false then judgeSignals c i r f.data false
  else if dataByte f.data 7 ≠ checkByte f.ident f.data then .rejected .sequenceError ((dataByte f.data 7).setWidth 16)
  else match r.lastAlive with
    | none => judgeSignals c i r f.data false
    | some last =>
      if aliveOf f.data = last then .duplicate
      else judgeSignals c i r f.data (decide (aliveOf f.data ≠ last + 1))

/-! ## Dispatch (R24) -/

/-- An accepted frame dispatched to its consumer, on the state after the frame's handling (R24). -/
def State.dispatch (s : State) (i : StreamId) (index : Nat) (e : RouteFields) (f : Frame) (v : Values) : State :=
  match v with
  | .inertial roll yaw lateral => if s.inertial.state = .fresh then s.joinSample ⟨roll, yaw, lateral, s.now⟩ else s
  | .speed _ => s
  | .torque t clamped => s.enterRequest (heldRequest index e f.ident t clamped s.now)
  | .selection mode load traction => if (s.stream i).state = .fresh then s.setWanted ⟨mode, load, traction⟩ else s

/-! ## Forwarding (R25) -/

/-- The forwarded copy of a frame: its identifier rewritten when the entry says so, and then byte 7 recomputed for a
protected consuming entry (R25). -/
def forwardedCopy (e : RouteFields) (f : Frame) : Frame :=
  match e.rewrite with
  | none => f
  | some ident =>
    if e.isProtected ∧ (streamOf e.cls).isSome then ⟨ident, f.data.set 7 (checkByte ident f.data)⟩
    else ⟨ident, f.data⟩

/-- A forwarded count (R25). -/
def RouteCounts.forward (c : RouteCounts) : RouteCounts := { c with forwarded := bump c.forwarded }

/-- A frame forwarded as its entry's forward field directs; each copy offered is counted (R25). -/
def State.forwardFrame (s : State) (index : Nat) (p : PortId) (e : RouteFields) (f : Frame) : State :=
  match e.forward with
  | .nowhere => s
  | .otherQ2 => (s.countRoute index RouteCounts.forward).offer p.other .q2 (forwardedCopy e f)
  | .otherQ0 => (s.countRoute index RouteCounts.forward).offer p.other .q0 (forwardedCopy e f)

/-- A torque request is never forwarded; the other consuming classes follow their forward field (R2, R25). -/
def State.forwardConsumed (s : State) (i : StreamId) (index : Nat) (p : PortId) (e : RouteFields) (f : Frame) : State :=
  if i = .torqueRequest then s else s.forwardFrame index p e f

/-! ## One frame of a consuming class (R7, R16, R17) -/

/-- The counts of a rejected frame (R16). -/
def RouteCounts.reject (c : RouteCounts) : RouteCounts := { c with rejects := bump c.rejects }

/-- The counts of a duplicate (R13). -/
def RouteCounts.duplicate (c : RouteCounts) : RouteCounts := { c with duplicates := bump c.duplicates }

/-- The counts of an accepted frame (R15, R17). -/
def RouteCounts.accept (c : RouteCounts) (sequenceError clamped : Bool) : RouteCounts :=
  { c with
    accepted := bump c.accepted
    sequenceErrors := bumpIf sequenceError c.sequenceErrors
    clamped := bumpIf clamped c.clamped }

/-- A rejected frame: the record, what its change does, and the occurrence named by the check (R16). -/
def State.rejectFrame (s : State) (i : StreamId) (index : Nat) (cls : FaultClass) (value : Half) : State :=
  let (moved, hs) := (s.countRoute index RouteCounts.reject).moveStream i (.route index) (s.stream i).reject
  moved.handOffs (.event cls (.route index) value :: hs)

/-- The stream record update and the fault occurrences of an accepted frame (R17). -/
def State.recordAccepted (s : State) (i : StreamId) (index : Nat) (e : RouteFields) (f : Frame) (v : Values)
    (sequenceError : Bool) : State :=
  let (moved, hs) := (s.countRoute index (·.accept sequenceError v.isClamped)).moveStream i (.route index)
    ((s.stream i).accept e v (aliveOf f.data) s.now sequenceError)
  let raised : List HandOff :=
    if sequenceError then [.event .sequenceError (.route index) ((aliveOf f.data).setWidth 16)] else []
  moved.handOffs (raised ++ hs)

/-- An accepted frame: record and occurrences, dispatch, forwarded copy, in this order (R7, R17). -/
def State.acceptFrame (s : State) (i : StreamId) (index : Nat) (p : PortId) (e : RouteFields) (f : Frame) (v : Values)
    (sequenceError : Bool) : State :=
  ((s.recordAccepted i index e f v sequenceError).dispatch i index e f v).forwardConsumed i index p e f

/-- The supervisor's handling of a frame admitted by the budget (R11 to R17). -/
def State.supervise (s : State) (i : StreamId) (index : Nat) (p : PortId) (e : RouteFields) (f : Frame) : State :=
  match judge s.store.chassis i (s.stream i) e f with
  | .rejected cls value => s.rejectFrame i index cls value
  | .duplicate => s.countRoute index RouteCounts.duplicate
  | .accepted v sequenceError => s.acceptFrame i index p e f v sequenceError

/-! ## Ageing (R18, R19) -/

/-- STALE_EXPIRY (R18): a FRESH stream whose stale timer has reached its setting becomes STALE. -/
def execStaleExpiry (i : StreamId) (s : State) : Host.Outcome State Fault Refusal :=
  .next (if (s.stream i).state = .fresh ∧ dueOption s.now (s.stream i).staleTimer then
    s.setStream i { s.stream i with state := .stale, staleTimer := none }
  else s)

/-- LOST_EXPIRY (R19): a STALE stream whose lost timer has reached its setting becomes LOST, with the effects of R23. -/
def execLostExpiry (i : StreamId) (s : State) : Host.Outcome State Fault Refusal :=
  .next (if (s.stream i).state = .stale ∧ dueOption s.now (s.stream i).lostTimer then
    let (moved, hs) := s.moveStream i (s.routeSource (classOf i)) ((s.stream i).leave .lost)
    moved.handOffs hs
  else s)

end Sys2Proof.Machine
end

