-- ==== Sys2Proof/Machine/RouteTable.lean ====
section
/-! DEFINITION. The frame classifier's route table (01, sections 1.2 to 1.4): lookup, the owner's answers to the three route
commands and the route read, and the policing window. -/

namespace Sys2Proof.Machine

/-- What an owner answers to a command: the state after it, the result, and the reply data (R178). -/
structure Answer where
  state : State
  result : Result
  data : List Byte

/-- An answer with no reply data. -/
def answerPlain (s : State) (r : Result) : Answer := ⟨s, r, []⟩

/-! ## Lookup (R2) -/

/-- The ENABLED entry whose port and identifier match (R2). -/
def State.lookup (s : State) (p : PortId) (ident : Ident) : Option Nat :=
  s.routes.findIdx? (fun e => decide (e.state = .enabled ∧ e.fields.port = p ∧ e.fields.ident = ident))

/-! ## Fields by number (R189) -/

def routeClassOf : Nat → Option RouteClass
  | 0 => some .inertial
  | 1 => some .wheelFront
  | 2 => some .wheelRear
  | 3 => some .torqueRequest
  | 4 => some .riderSelect
  | 5 => some .dashCommand
  | 6 => some .serviceCommand
  | 7 => some .pass
  | _ => none

def forwardOf : Nat → Option Forward
  | 0 => some .nowhere
  | 1 => some .otherQ2
  | 2 => some .otherQ0
  | _ => none

def portOf : Nat → Option PortId
  | 0 => some .a
  | 1 => some .b
  | _ => none

/-- A switch or mark from its code: 0 or 1 (R186; log 15). -/
def flagOf : Nat → Option Bool
  | 0 => some false
  | 1 => some true
  | _ => none

/-- A rewrite identifier from its two bytes: 0xFFFF is absent (R189). The outer none is out of range. -/
def rewriteOf (v : Nat) : Option (Option Ident) :=
  if v = 0xFFFF then some none else if v ≤ 0x7FF then some (some (BitVec.ofNat 11 v)) else none

/-- The fields after a write of one field by number; none when the field is unknown or the value out of its range (R4,
route field table). -/
def RouteFields.write (f : RouteFields) (field v : Nat) : Option RouteFields :=
  match field with
  | 0 => (portOf v).map (fun x => { f with port := x })
  | 1 => if v ≤ 0x7FF then some { f with ident := BitVec.ofNat 11 v } else none
  | 2 => (routeClassOf v).map (fun x => { f with cls := x })
  | 3 => (forwardOf v).map (fun x => { f with forward := x })
  | 4 => (rewriteOf v).map (fun x => { f with rewrite := x })
  | 5 => if v ≤ 255 then some { f with budget := v } else none
  | 6 => (flagOf v).map (fun x => { f with isProtected := x })
  | 7 => if 5 ≤ v ∧ v ≤ 1000 then some { f with staleTime := v } else none
  | 8 => if 20 ≤ v ∧ v ≤ 2000 then some { f with lostTime := v } else none
  | 9 => if 5 ≤ v ∧ v ≤ 40 then some { f with nominalPeriod := v } else none
  | 10 => if 2 ≤ v ∧ v ≤ 50 then some { f with holdLimit := v } else none
  | _ => none

/-- The value of one field by number; none when the field is unknown (R183, R189). -/
def RouteFields.read (f : RouteFields) (field : Nat) : Option Nat :=
  match field with
  | 0 => some (portCode f.port)
  | 1 => some f.ident.toNat
  | 2 => some f.cls.code
  | 3 => some f.forward.code
  | 4 => some (match f.rewrite with
    | some x => x.toNat
    | none => 0xFFFF)
  | 5 => some f.budget
  | 6 => some (flagCode f.isProtected)
  | 7 => some f.staleTime
  | 8 => some f.lostTime
  | 9 => some f.nominalPeriod
  | 10 => some f.holdLimit
  | _ => none

/-! ## The route commands -/

/-- WRITE ROUTE FIELD at the classifier (R4): the index and the field are checked before the entry's state. -/
def State.writeRoute (s : State) (entry field v : Nat) : Answer :=
  if 47 < entry ∨ 10 < field then answerPlain s .badOperand
  else match (s.route entry).state with
    | .free => answerPlain s .badOperand
    | .enabled => answerPlain s .inUse
    | .disabled =>
      match (s.route entry).fields.write field v with
      | none => answerPlain s .badOperand
      | some f => answerPlain (s.modifyRoute entry (fun e => { e with fields := f })) .done

/-- Check 1 of ENABLE ROUTE: the times of a consuming class, the port of a command class (R5). -/
def RouteFields.relationsFail (f : RouteFields) : Bool :=
  ((streamOf f.cls).isSome && decide (f.lostTime ≤ f.staleTime)) ||
    decide ((f.cls = .dashCommand ∨ f.cls = .serviceCommand) ∧ f.port = .b)

/-- Some other ENABLED entry satisfies a test on its fields. -/
def State.otherEnabled (s : State) (entry : Nat) (test : RouteFields → Bool) : Bool :=
  s.routes.zipIdx.any (fun (e, i) => decide (i ≠ entry ∧ e.state = .enabled) && test e.fields)

/-- ENABLE ROUTE of a DISABLED entry: its first failed check, or DONE (R5). -/
def State.enableResult (s : State) (entry : Nat) (f : RouteFields) : Result :=
  if f.relationsFail then .badOperand
  else if s.otherEnabled entry (fun g => decide (g.port = f.port ∧ g.ident = f.ident)) then .duplicate
  else if decide (f.cls ≠ .pass) && s.otherEnabled entry (fun g => decide (g.cls = f.cls)) then .classTaken
  else .done

/-- An entry that becomes ENABLED: its policing state is cleared (R5, R27). -/
def RouteEntry.enable (e : RouteEntry) : RouteEntry :=
  { e with state := .enabled, windowCount := 0, droppedMark := false, floodStreak := 0 }

/-- ENABLE ROUTE at the classifier (R5). -/
def State.enableRouteAt (s : State) (entry : Nat) : Answer :=
  if 47 < entry then answerPlain s .badOperand
  else match (s.route entry).state with
    | .free => answerPlain s .badOperand
    | .enabled => answerPlain s .done
    | .disabled =>
      match s.enableResult entry (s.route entry).fields with
      | .done => answerPlain (s.modifyRoute entry RouteEntry.enable) .done
      | r => answerPlain s r

/-- An ENABLED entry becomes DISABLED; the stream of a consuming class returns to UNSEEN, with the effects of R22 and R23
(R6). -/
def State.disableEnabled (s : State) (entry : Nat) : State :=
  let disabled := s.modifyRoute entry (fun e => { e with state := .disabled })
  match streamOf (s.route entry).fields.cls with
  | none => disabled
  | some i =>
    let (moved, hs) := disabled.moveStream i (.route entry) unseenRecord
    moved.handOffs hs

/-- A FREE entry is claimed: DISABLED with the blank values (R6). -/
def RouteEntry.claim (e : RouteEntry) : RouteEntry := { e with state := .disabled, fields := blankFields }

/-- DISABLE ROUTE at the classifier (R6). -/
def State.disableRouteAt (s : State) (entry : Nat) : Answer :=
  if 47 < entry then answerPlain s .badOperand
  else match (s.route entry).state with
    | .enabled => answerPlain (s.disableEnabled entry) .done
    | .disabled => answerPlain s .done
    | .free => answerPlain (s.modifyRoute entry RouteEntry.claim) .done

/-- READ ROUTE FIELD at the classifier (R183): a FREE entry is read as holding its blank values. -/
def State.readRoute (s : State) (entry field : Nat) : Answer :=
  if 47 < entry then answerPlain s .badOperand
  else
    let e := s.route entry
    match (if e.state = .free then blankFields else e.fields).read field with
    | none => answerPlain s .badOperand
    | some v => ⟨s, .done, twoBytes v ++ [byteOf e.state.code]⟩

/-! ## The policing window (R9, R10) -/

/-- The policing state of an entry after a window expiry (R9). -/
def RouteEntry.windowExpiry (e : RouteEntry) : RouteEntry :=
  { e with
    floodStreak := if e.droppedMark then min (e.floodStreak + 1) 3 else 0
    windowCount := 0
    droppedMark := false }

/-- The ENABLED entries whose flood streak is 3, with their indices (R9). -/
def State.flooding (s : State) : List (Nat × RouteEntry) :=
  (s.routes.zipIdx.filter (fun (e, _) => decide (e.state = .enabled ∧ e.floodStreak = 3))).map (fun (e, i) => (i, e))

/-- One flooding entry: its stream is told, and STREAM_FLOOD is owed with its over-budget count (R9, R20). -/
def floodEntry (acc : State × List HandOff) (x : Nat × RouteEntry) : State × List HandOff :=
  let raised := HandOff.event .streamFlood (.route x.1) (BitVec.ofNat 16 x.2.counts.overBudget)
  match streamOf x.2.fields.cls with
  | none => (acc.1, acc.2 ++ [raised])
  | some i =>
    let (moved, hs) := acc.1.moveStream i (.route x.1) (acc.1.stream i).flood
    (moved, acc.2 ++ raised :: hs)

/-- A window expiry: every entry is updated, the timer restarts, and the floods are raised (R9). The timer restarts from
the count at which it fell due (log 30). -/
def State.windowExpiry (s : State) : State :=
  let updated : State := { s with
    routes := s.routes.map RouteEntry.windowExpiry
    policingStart := s.policingStart + BitVec.ofNat 16 policingWindow }
  let (told, hs) := updated.flooding.foldl floodEntry (updated, [])
  told.handOffs hs

/-- POLICING_WINDOW_EXPIRY (R9), once its timer has reached 100 ms (log 3). -/
def execPolicingWindowExpiry (s : State) : Host.Outcome State Fault Refusal :=
  .next (if timerDue s.now s.policingStart policingWindow then s.windowExpiry else s)

/-- The budget admits a frame: no budget, or a window count below it (R10). -/
def RouteEntry.admits (e : RouteEntry) : Bool := decide (e.fields.budget = 0 ∨ e.windowCount < e.fields.budget)

/-- The entry after an admitted frame: counted in the window unless unlimited, and matched (R10). -/
def RouteEntry.countAdmitted (e : RouteEntry) : RouteEntry :=
  { e with
    windowCount := if e.fields.budget = 0 then e.windowCount else e.windowCount + 1
    counts := { e.counts with matched := bump e.counts.matched } }

/-- The entry after a frame dropped over budget (R10). -/
def RouteEntry.dropFrame (e : RouteEntry) : RouteEntry :=
  { e with droppedMark := true, counts := { e.counts with overBudget := bump e.counts.overBudget } }

end Sys2Proof.Machine
end

