-- ==== Sys2Proof/Machine/PageStore.lean ====
section
/-! DEFINITION. The page store (07): page entries, the seal and its steps, unsealing, the page map and the chassis
settings. -/

namespace Sys2Proof.Machine

/-! ## Page entries (R121, R123, R124) -/

/-- A table of a page by number: ceiling row 0, slip-target row 1, brake row 2, scalars 3 (R186). -/
def Page.table (p : Page) : Nat → List Nat
  | 0 => p.ceiling
  | 1 => p.slipTarget
  | 2 => p.brake
  | _ => p.scalars

/-- A page with one entry of a table set. -/
def Page.setEntry (p : Page) (table index v : Nat) : Page :=
  match table with
  | 0 => { p with ceiling := p.ceiling.set index v }
  | 1 => { p with slipTarget := p.slipTarget.set index v }
  | 2 => { p with brake := p.brake.set index v }
  | _ => { p with scalars := p.scalars.set index v }

/-- The page, table and index operands are in range (R123, check 1). -/
def entryInRange (page table index : Nat) : Bool :=
  decide (page ≤ 7 ∧ table ≤ 3 ∧ index ≤ (if table = 3 then 7 else 12))

/-- A value lies in the range of a page entry (R121). -/
def entryValueOk (table index v : Nat) : Bool :=
  match table with
  | 0 => decide (v ≤ 400)
  | 1 => decide (v ≤ 500)
  | 2 => decide (v ≤ 250)
  | _ => match scalarRanges[index]? with
    | some (low, high) => decide (low ≤ v ∧ v ≤ high)
    | none => false

/-- WRITE PAGE ENTRY at the page store (R123). -/
def State.writePage (s : State) (page table index v : Nat) : Answer :=
  if entryInRange page table index = false then answerPlain s .badOperand
  else if page = 0 then answerPlain s .notPermitted
  else match (s.store.page page).state with
    | .sealing => answerPlain s .busy
    | .sealed => answerPlain s .inUse
    | .opened =>
      if entryValueOk table index v then
        let t := s.store.modifyPage page (fun p => p.setEntry table index v)
        answerPlain { s with store := { t with counts := { t.counts with pageWrites := bump t.counts.pageWrites } } } .done
      else answerPlain s .badOperand

/-- READ PAGE ENTRY at the page store (R124). -/
def State.readPage (s : State) (page table index : Nat) : Answer :=
  if entryInRange page table index then
    let p := s.store.page page
    ⟨s, .done, twoBytes ((p.table table).getD index 0) ++ [byteOf p.state.code]⟩
  else answerPlain s .badOperand

/-! ## Sealing (R125 to R127) -/

/-- What SEAL PAGE comes to: an answer at once, or an accepted seal (R125). -/
inductive SealAnswer where
  | now (result : Result)
  | accepted
deriving DecidableEq, Repr

/-- The checks of SEAL PAGE in their order (R125). -/
def State.sealAnswer (s : State) (page : Nat) : SealAnswer :=
  if 7 < page then .now .badOperand
  else if (s.store.page page).state = .sealed then .now .done
  else if s.store.sealRecord.isSome then .now .busy
  else match (s.store.page page).state with
    | .opened => .accepted
    | .sealing => .now .busy
    | .sealed => .now .done

/-- An accepted seal: the page is SEALING, the record takes page, step 1 and tag, and the first step is asked for (R125). -/
def State.beginSeal (s : State) (page : Nat) (tag : Byte) : State :=
  let t := s.store.modifyPage page (fun p => { p with state := .sealing })
  ({ s with store := { t with
      sealRecord := some ⟨page, 1, tag⟩
      counts := { t.counts with sealsBegun := bump t.counts.sealsBegun } } } : State).askSeal

/-- The reasons of a failed step, in the order of R186. -/
inductive SealReason where
  | range
  | bound
  | order
deriving DecidableEq, Repr

def SealReason.code : SealReason → Nat
  | .range => 0
  | .bound => 1
  | .order => 2

/-- The checks of one index of a step, in their order: range, bound, order (R126). `before` is the entry before it. -/
def sealCheckEntry (step hard index v : Nat) (before : Option Nat) : Option SealReason :=
  if entryValueOk (step - 1) index v = false then some .range
  else if step = 1 ∧ hard < v then some .bound
  else if step = 4 ∧ index = 6 ∧ hard < v then some .bound
  else match before with
    | some b => if (step = 1 ∨ step = 3) ∧ b < v then some .order else none
    | none => none

/-- The first failed check of a step, with its index, the entries taken in ascending order (R126). -/
def sealScan (step hard : Nat) : Nat → Option Nat → List Nat → Option (Nat × SealReason)
  | _, _, [] => none
  | index, before, v :: rest =>
    match sealCheckEntry step hard index v before with
    | some reason => some (index, reason)
    | none => sealScan step hard (index + 1) (some v) rest

/-- The outcome of a SEAL_STEP on its snapshot: none when it passes (R126). -/
def SealSnapshot.outcome (n : SealSnapshot) : Option (Nat × SealReason) := sealScan n.step n.hardCeiling 0 none n.entries

/-! ## Unsealing (R129) -/

/-- A page is in use: a slot of the map names it, or governor control does (R129, R106). -/
def State.pageInUse (s : State) (page : Nat) : Bool := s.store.pageMap.any (fun p => decide (p = page)) || s.namedInUse page

/-- UNSEAL PAGE at the page store (R129). -/
def State.unsealPageAt (s : State) (page : Nat) : Answer :=
  if 7 < page then answerPlain s .badOperand
  else if page = 0 then answerPlain s .notPermitted
  else match (s.store.page page).state with
    | .opened => answerPlain s .done
    | .sealing => answerPlain s .busy
    | .sealed =>
      if s.pageInUse page then answerPlain s .inUse
      else
        let t := s.store.modifyPage page (fun p => { p with state := .opened })
        answerPlain { s with store := { t with counts := { t.counts with unseals := bump t.counts.unseals } } } .done

/-! ## The page map (R131) -/

/-- MAP PAGE at the page store: a compare-and-swap of a slot (R131). -/
def State.mapPageAt (s : State) (slot expected new : Nat) : Answer :=
  if 11 < slot ∨ 7 < expected ∨ 7 < new then answerPlain s .badOperand
  else if (s.store.page new).state ≠ .sealed then answerPlain s .notSealed
  else
    let held := s.store.pageMap.getD slot 0
    if held ≠ expected then
      ⟨{ s with store := { s.store with counts := { s.store.counts with mapConflicts := bump s.store.counts.mapConflicts } } },
        .mapConflict, [byteOf held]⟩
    else
      answerPlain { s with store := { s.store with
        pageMap := s.store.pageMap.set slot new
        counts := { s.store.counts with maps := bump s.store.counts.maps } } } .done

/-! ## Chassis settings (R133 to R138, R189) -/

/-- The items of the chassis settings by number (R189). -/
inductive ChassisItem where
  | windowLower (w : Nat)
  | windowUpper (w : Nat)
  | windowStep (w : Nat)
  | frontRadius (i : Nat)
  | rearRadius (i : Nat)
  | decimation
  | reportToA
  | unknownAction (p : PortId)
  | alertLevel (c : FaultClass)
  | alertMasked (c : FaultClass)
  | alertRelease (c : FaultClass)
  | vectorBase
deriving DecidableEq, Repr

/-- The item a number names; none above 86 (R189). -/
def chassisItem (n : Nat) : Option ChassisItem :=
  if n < 18 then
    match n % 3 with
    | 0 => some (.windowLower (n / 3))
    | 1 => some (.windowUpper (n / 3))
    | _ => some (.windowStep (n / 3))
  else if n < 32 then some (.frontRadius (n - 18))
  else if n < 46 then some (.rearRadius (n - 32))
  else if n = 46 then some .decimation
  else if n = 47 then some .reportToA
  else if n = 48 then some (.unknownAction .a)
  else if n = 49 then some (.unknownAction .b)
  else if n < 86 then
    (classOfNumber ((n - 50) / 3 + 1)).map (fun c => match (n - 50) % 3 with
      | 0 => ChassisItem.alertLevel c
      | 1 => ChassisItem.alertMasked c
      | _ => ChassisItem.alertRelease c)
  else if n = 86 then some .vectorBase
  else none

/-- The lowest and highest bound a window may hold (R134). -/
def boundRange (w : Nat) : Int × Int :=
  if w < 3 then (-32767, 32767) else if w < 5 then (0, 65535) else (0, 400)

/-- A bound as a window reads its two bytes: signed for the three inertial windows (R134, R189). -/
def boundValue (w : Nat) (v : Half) : Int := if w < 3 then v.toInt else v.toNat

/-- A bound lies in the range of its window. -/
def boundOk (w : Nat) (x : Int) : Bool := decide ((boundRange w).1 ≤ x ∧ x ≤ (boundRange w).2)

def unknownActionOf : Nat → Option UnknownAction
  | 0 => some .drop
  | 1 => some .forwardQ2
  | 2 => some .forwardQ0
  | _ => none

def releaseOf : Nat → Option ReleaseType
  | 0 => some .latched
  | 1 => some .follow
  | _ => none

/-- The settings with one window changed. -/
def Chassis.modifyWindow (c : Chassis) (w : Nat) (f : Window → Window) : Chassis := { c with windows := c.windows.modify w f }

/-- The settings with the alert map's items of one class changed. -/
def Chassis.modifyAlert (c : Chassis) (k : FaultClass) (f : AlertSetting → AlertSetting) : Chassis :=
  { c with alertMap := c.alertMap.modify k.index f }

/-- A level from its code (R138). -/
def levelOf (v : Nat) : Option Level := if h : v < 4 then some ⟨v, h⟩ else none

/-- The settings after a write of an item; none when the value is out of its range (R133 to R138). -/
def Chassis.write (c : Chassis) (item : ChassisItem) (v : Half) : Option Chassis :=
  match item with
  | .windowLower w =>
    let x := boundValue w v
    if boundOk w x ∧ x ≤ (c.window w).upper then some (c.modifyWindow w (fun y => { y with lower := x })) else none
  | .windowUpper w =>
    let x := boundValue w v
    if boundOk w x ∧ (c.window w).lower ≤ x then some (c.modifyWindow w (fun y => { y with upper := x })) else none
  | .windowStep w => some (c.modifyWindow w (fun y => { y with maxStep := if v.toNat = 0 then none else some v.toNat }))
  | .frontRadius i =>
    if 3686 ≤ v.toNat ∧ v.toNat ≤ 4096 then some { c with frontRadius := c.frontRadius.set i v.toNat } else none
  | .rearRadius i =>
    if 3686 ≤ v.toNat ∧ v.toNat ≤ 4096 then some { c with rearRadius := c.rearRadius.set i v.toNat } else none
  | .decimation => if 1 ≤ v.toNat ∧ v.toNat ≤ 8 then some { c with decimation := v.toNat } else none
  | .reportToA => (flagOf v.toNat).map (fun b => { c with reportToA := b })
  | .unknownAction .a => (unknownActionOf v.toNat).map (fun a => { c with unknownA := a })
  | .unknownAction .b => (unknownActionOf v.toNat).map (fun a => { c with unknownB := a })
  | .alertLevel k => (levelOf v.toNat).map (fun l => c.modifyAlert k (fun a => { a with level := l }))
  | .alertMasked k => (flagOf v.toNat).map (fun b => c.modifyAlert k (fun a => { a with masked := b }))
  | .alertRelease k => (releaseOf v.toNat).map (fun r => c.modifyAlert k (fun a => { a with release := r }))
  | .vectorBase => if v.toNat ≤ 15 then some { c with vectorBase := v.toNat } else none

/-- The two bytes of an item's value (R189). -/
def Chassis.read (c : Chassis) (item : ChassisItem) : List Byte :=
  match item with
  | .windowLower w => twoBytesSigned (c.window w).lower
  | .windowUpper w => twoBytesSigned (c.window w).upper
  | .windowStep w => twoBytes ((c.window w).maxStep.getD 0)
  | .frontRadius i => twoBytes (c.frontRadius.getD i 0)
  | .rearRadius i => twoBytes (c.rearRadius.getD i 0)
  | .decimation => twoBytes c.decimation
  | .reportToA => twoBytes (flagCode c.reportToA)
  | .unknownAction .a => twoBytes c.unknownA.code
  | .unknownAction .b => twoBytes c.unknownB.code
  | .alertLevel k => twoBytes (settingOf c.alertMap k).level.val
  | .alertMasked k => twoBytes (flagCode (settingOf c.alertMap k).masked)
  | .alertRelease k => twoBytes (settingOf c.alertMap k).release.code
  | .vectorBase => twoBytes c.vectorBase

/-- The class whose alert map items an item is, if any. -/
def ChassisItem.alertClass : ChassisItem → Option FaultClass
  | .alertLevel k => some k
  | .alertMasked k => some k
  | .alertRelease k => some k
  | .windowLower _ => none
  | .windowUpper _ => none
  | .windowStep _ => none
  | .frontRadius _ => none
  | .rearRadius _ => none
  | .decimation => none
  | .reportToA => none
  | .unknownAction _ => none
  | .vectorBase => none

/-- The fault unit takes an accepted alert map write at the write (R138, R171). -/
def State.alertMapWritten (s : State) (item : ChassisItem) (before : Chassis) : State :=
  match item.alertClass with
  | some k => s.withFaultSide (s.faultSide.mapWritten s.faultEnv k (settingOf before.alertMap k))
  | none => s

/-- WRITE CHASSIS SETTING at the page store (R133). -/
def State.writeChassis (s : State) (n : Nat) (v : Half) : Answer :=
  match chassisItem n with
  | none => answerPlain s .badOperand
  | some item =>
    match s.store.chassis.write item v with
    | none => answerPlain s .badOperand
    | some c =>
      let written : State := { s with store := { s.store with
        chassis := c
        counts := { s.store.counts with chassisWrites := bump s.store.counts.chassisWrites } } }
      answerPlain (written.alertMapWritten item s.store.chassis) .done

/-- READ CHASSIS SETTING at the page store (R133). -/
def State.readChassis (s : State) (n : Nat) : Answer :=
  match chassisItem n with
  | none => answerPlain s .badOperand
  | some item => ⟨s, .done, s.store.chassis.read item⟩

end Sys2Proof.Machine
end

