-- ==== Sys2Proof/Machine/Transmission.lean ====
section
/-! DEFINITION. The link ports' transmission (08, sections 8.3 to 8.6): the arbiter's choice, the two ends of an attempt, the
entry into OFF and the recovery, and the repeat timers of the alert levels, whose frames leave by Port A. -/

namespace Sys2Proof.Machine

/-! ## Port state and error count (R149) -/

/-- The state of a port that is not OFF, from its transmit error count (R149). -/
def modeOf (errorCount : Nat) : PortMode := if errorCount < 128 then .active else .passive

/-- A port after a success, before the arbiter's choice (R150, items 1 to 3). -/
def Port.succeed (p : Port) : Port :=
  { p with
    slot := none
    errorCount := p.errorCount - 1
    mode := modeOf (p.errorCount - 1)
    giveUpStreak := 0
    counts := { p.counts with sent := bump p.counts.sent } }

/-- The frames that an entry into OFF removes: the slot's and every waiting one (R153). -/
def Port.heldFrames (p : Port) : Nat :=
  (if p.slot.isSome then 1 else 0) + p.q3.length + p.q2.length + p.q1.length + p.q0.length

/-- The failed attempt is counted (R151). -/
def Port.countFailure (p : Port) : Port :=
  { p with counts := { p.counts with failedAttempts := bump p.counts.failedAttempts } }

/-- The entry into OFF (R153, items 1 to 5). -/
def Port.enterOff (p : Port) (now : Stamp) : Port :=
  { p with
    mode := .off
    errorCount := 255
    slot := none
    q3 := []
    q2 := []
    q1 := []
    q0 := []
    recoveryTimer := some now
    counts := { p.counts with
      flushed := bumpBy p.counts.flushed p.heldFrames
      offEntries := bump p.counts.offEntries } }

/-- The error count rises by 8 and the state follows it (R151, R149). -/
def Port.raiseError (p : Port) : Port := { p with errorCount := p.errorCount + 8, mode := modeOf (p.errorCount + 8) }

/-- The frame in the slot is given up after its eighth failed attempt (R151). -/
def Port.giveUp (p : Port) : Port :=
  { p with
    slot := none
    giveUpStreak := bump p.giveUpStreak
    counts := { p.counts with givenUp := bump p.counts.givenUp } }

/-- A port that returns to service (R154, items 1 to 4). -/
def Port.recover (p : Port) : Port :=
  { p with
    mode := .active
    errorCount := 0
    giveUpStreak := 0
    credit2 := 4
    credit1 := 2
    credit0 := 1
    recoveryTimer := none
    counts := { p.counts with recoveries := bump p.counts.recoveries } }

/-! ## Hand-offs of a port's condition (R155) -/

/-- A port hands its condition present, with its error count at the event (R155, R157). -/
def State.portPresent (s : State) (p : PortId) : State :=
  s.handOff (.present (portClass p) (.port p) (BitVec.ofNat 16 (s.port p).errorCount))

/-- A port hands its condition absent (R155). -/
def State.portAbsent (s : State) (p : PortId) : State := s.handOff (.absent (portClass p))

/-! ## The ends of an attempt (R150, R151) -/

/-- TRANSMIT_ARBITER_CHOICE (R147, R148): with the slot empty and a frame queued, the arbiter's choice. In every state a
command leaves, the choice has been made at once already (log 2). -/
def execTransmitArbiterChoice (p : PortId) (s : State) : Host.Outcome State Fault Refusal := .next (s.arbitrate p)

/-- A success (R150): the port, the end of the streak condition, then the arbiter's choice. -/
def State.transmitSuccess (s : State) (p : PortId) : State :=
  let sent := s.setPort p (s.port p).succeed
  let told := if 3 ≤ (s.port p).giveUpStreak then sent.portAbsent p else sent
  told.arbitrate p

/-- A frame given up (R151): the port, the streak condition when the streak reaches 3, then the arbiter's choice. -/
def State.giveUpFrame (s : State) (p : PortId) : State :=
  let dropped := s.setPort p (s.port p).giveUp
  let told := if (dropped.port p).giveUpStreak = 3 then dropped.portPresent p else dropped
  told.arbitrate p

/-- A failure of the attempt of a frame in the slot (R151). -/
def State.transmitFailure (s : State) (p : PortId) (f : SlotFrame) : State :=
  let port := (s.port p).countFailure
  if 248 ≤ port.errorCount then (s.setPort p (port.enterOff s.now)).portPresent p
  else
    let raised := port.raiseError
    if f.failed + 1 < attemptLimit then s.setPort p { raised with slot := some { f with failed := f.failed + 1 } }
    else (s.setPort p raised).giveUpFrame p

/-- The frame whose attempts a port makes: the slot's, while the port is not OFF (08, section 8.3; R152). -/
def Port.attempting (p : Port) : Option SlotFrame := if p.mode = .off then none else p.slot

/-- TRANSMIT_SUCCESS (R150). With no frame being sent no attempt can end (log 6). -/
def execTransmitSuccess (p : PortId) (s : State) : Host.Outcome State Fault Refusal :=
  .next (match (s.port p).attempting with
    | some _ => s.transmitSuccess p
    | none => s)

/-- TRANSMIT_FAILURE (R151). With no frame being sent no attempt can end (log 6). -/
def execTransmitFailure (p : PortId) (s : State) : Host.Outcome State Fault Refusal :=
  .next (match (s.port p).attempting with
    | some f => s.transmitFailure p f
    | none => s)

/-! ## Recovery (R154, R172) -/

/-- The recovery timer of an OFF port has reached its setting. -/
def Port.recoveryDue (p : Port) (now : Stamp) : Bool :=
  decide (p.mode = .off) && match p.recoveryTimer with
    | some start => timerDue now start recoverySetting
    | none => false

/-- A recovery: the port, its condition, and for Port A the resynchronising alert frames (R154, R172). -/
def State.recoverPort (s : State) (p : PortId) : State :=
  let told := (s.setPort p (s.port p).recover).portAbsent p
  match p with
  | .a => told.withFaultSide (told.faultSide.resync told.faultEnv)
  | .b => told

/-- RECOVERY_TIMER_EXPIRY (R154), once the timer has reached 50 ms (log 3). -/
def execRecoveryTimerExpiry (p : PortId) (s : State) : Host.Outcome State Fault Refusal :=
  .next (if (s.port p).recoveryDue s.now then s.recoverPort p else s)

/-! ## Repeat timers (R169) -/

/-- A level's repeat timer runs and has reached its setting. -/
def State.repeatDue (s : State) (l : Level) : Bool :=
  match (s.faults.level l).repeatTimer with
  | some start => timerDue s.now start repeatSetting
  | none => false

/-- REPEAT_TIMER_EXPIRY (R169), once the timer has reached 200 ms (log 3). -/
def execRepeatTimerExpiry (l : Level) (s : State) : Host.Outcome State Fault Refusal :=
  .next (if s.repeatDue l then s.withFaultSide (s.faultSide.repeatExpiry s.faultEnv l) else s)

end Sys2Proof.Machine
end

