-- ==== Sys2Proof/Machine/Reading.lean ====
section
/-! DEFINITION. What the reading commands return: the items of READ STATE with their parts (R181), the counters of READ
COUNTER (R182), and the two frames of READ CAPTURE (R183), at the positions of R189. -/

namespace Sys2Proof.Machine

/-! ## Fields and parts (R189) -/

/-- A field of one byte. -/
def oneByte (n : Nat) : List Byte := [byteOf n]

/-- A mark or flag as a field. -/
def flagField (b : Bool) : List Byte := oneByte (flagCode b)

/-- An optional field of `width` value bytes: its presence byte, then the value, or zeros when it is absent. -/
def optionalField (width : Nat) : Option (List Byte) → List Byte
  | some value => 1 :: value
  | none => 0 :: List.replicate width 0

/-- A running timer as a field: status 0 and the time remaining. -/
def runningField (remaining : Nat) : List Byte := 0 :: twoBytes remaining
/-- A stopped timer as a field: status 1. -/
def stoppedField : List Byte := [1, 0, 0]
/-- An expired timer as a field: status 2. -/
def expiredField : List Byte := [2, 0, 0]

/-- A timer known by its start, absent when stopped. -/
def timerField (now : Stamp) (setting : Nat) : Option Stamp → List Byte
  | some start => runningField (timeRemaining now start setting)
  | none => stoppedField

/-- The fields placed into parts of five bytes; a field that does not fit in the rest of a part begins the next. `part` is
the part being filled. -/
def packParts : List Byte → List (List Byte) → List (List Byte)
  | part, [] => [part]
  | part, field :: rest =>
    if part.length + field.length ≤ 5 then packParts (part ++ field) rest else part :: packParts field rest

/-! ## The items of READ STATE, each a list of fields in the order of its rule -/

/-- Item 0, lean (R59). -/
def State.leanItem (s : State) : List (List Byte) :=
  [twoBytesSigned s.lean.lean, flagField s.lean.valid, optionalField 2 (s.lean.tPrev.map bytesOf), flagField s.lean.saturated,
   oneByte s.lean.decimation, oneByte s.lean.reportAlive.toNat, oneByte s.lean.queue.length]

/-- Item 1, ceiling (R83). -/
def State.ceilingItem (s : State) : List (List Byte) :=
  [twoBytesSigned s.eval.slip, flagField s.eval.slipValid, oneByte s.eval.cut, twoBytes s.eval.published,
   flagField s.eval.riseLimited, flagField s.eval.pageChanged, flagField s.eval.fold]

/-- The START timer: running with the time remaining, stopped, or expired (R120). -/
def startTimerField (now : Stamp) : StartTimer → List Byte
  | .running start => runningField (timeRemaining now start startSetting)
  | .stopped => stoppedField
  | .expired => expiredField

/-- The fields of a selection. -/
def selectionFields (x : Selection) : List (List Byte) := [oneByte x.mode, oneByte x.load, flagField x.traction]

/-- Item 2, governor (R120). -/
def State.governorItem (s : State) : List (List Byte) :=
  [oneByte s.governor.state.code, startTimerField s.now s.governor.startTimer] ++
  selectionFields s.governor.wanted ++ [oneByte s.wantedPage] ++
  selectionFields s.governor.applied ++ [oneByte s.governor.appliedPage] ++
  [optionalField 2 (s.governor.committing.map (fun d => [byteOf d.state.code, byteOf d.page])), flagField s.governor.withdrawn]

/-- Item 3, hold (R101). -/
def State.holdItem (s : State) : List (List Byte) :=
  [flagField s.forwarder.slot.isSome,
   optionalField 2 (s.forwarder.slot.map (fun h => twoBytes h.request)),
   optionalField 1 (s.forwarder.slot.map (fun h => flagField h.clamped)),
   optionalField 1 (s.forwarder.slot.map (fun h => oneByte h.route)),
   optionalField 1 (s.forwarder.slot.map (fun _ => oneByte (s.forwarder.holdTimer.getD 0))),
   oneByte s.forwarder.alive.toNat, flagField s.forwarder.monitorOn]

/-- Item 4, engine (R37). -/
def State.engineItem (s : State) : List (List Byte) :=
  [flagField s.engine.running.isSome, optionalField 1 (s.engine.running.map (fun j => oneByte j.job.code)),
   flagField s.engine.ceilingPending, flagField s.engine.sealPending, oneByte s.lean.queue.length]

/-- The fields of a stream's latest values, each present or absent (R181). -/
def latestFields : StreamId → Option Values → List (List Byte)
  | .inertial, some (.inertial roll yaw lateral) =>
    [optionalField 2 (some (twoBytesSigned roll)), optionalField 2 (some (twoBytesSigned yaw)),
     optionalField 2 (some (twoBytesSigned lateral))]
  | .wheelFront, some (.speed v) => [optionalField 2 (some (twoBytes v))]
  | .wheelRear, some (.speed v) => [optionalField 2 (some (twoBytes v))]
  | .torqueRequest, some (.torque t clamped) => [optionalField 2 (some (twoBytes t)), optionalField 1 (some (flagField clamped))]
  | .riderSelect, some (.selection mode load traction) =>
    [optionalField 1 (some (oneByte mode)), optionalField 1 (some (oneByte load)), optionalField 1 (some (flagField traction))]
  | .inertial, _ => [optionalField 2 none, optionalField 2 none, optionalField 2 none]
  | .wheelFront, _ => [optionalField 2 none]
  | .wheelRear, _ => [optionalField 2 none]
  | .torqueRequest, _ => [optionalField 2 none, optionalField 1 none]
  | .riderSelect, _ => [optionalField 1 none, optionalField 1 none, optionalField 1 none]

/-- Item 5, stream (R181): state, latest values, age, last alive counter, the two counts and the set marks. -/
def streamItem (now : Stamp) (i : StreamId) (r : StreamRecord) : List (List Byte) :=
  [oneByte r.state.code] ++ latestFields i r.latest ++
  [twoBytes (if r.state = .unseen then 0 else ageOf now r.stamp),
   optionalField 1 (r.lastAlive.map (fun a => oneByte a.toNat)),
   oneByte r.rejects, oneByte r.recovery, oneByte (r.history.count true)]

/-- Item 6, port (R156). -/
def portItem (now : Stamp) (p : Port) : List (List Byte) :=
  [oneByte p.mode.code, oneByte p.errorCount, twoBytes p.giveUpStreak,
   oneByte p.q3.length, oneByte p.q2.length, oneByte p.q1.length, oneByte p.q0.length,
   flagField p.slot.isSome, optionalField 1 (p.slot.map (fun x => oneByte x.origin.code)),
   optionalField 1 (p.slot.map (fun x => oneByte x.failed)),
   oneByte p.credit2, oneByte p.credit1, oneByte p.credit0,
   timerField now recoverySetting p.recoveryTimer, flagField p.faultPresent]

/-- Item 7, pages (R181). -/
def State.pagesItem (s : State) : List (List Byte) :=
  (List.range 8).map (fun i => oneByte (s.store.page i).state.code) ++
  [optionalField 3 (s.store.sealRecord.map (fun r => [byteOf r.page, byteOf r.step, r.tag]))]

/-- Item 8, page map (R181). -/
def State.mapItem (s : State) : List (List Byte) := (List.range 12).map (fun i => oneByte (s.store.pageMap.getD i 0))

/-- The four levels in number order. -/
def allLevels : List Level := [0, 1, 2, 3]

/-- Item 9, faults (R174). -/
def State.faultsItem (s : State) : List (List Byte) :=
  allClasses.map (fun c => flagField (s.faults.record c).asserted) ++
  (allClasses.filter FaultClass.isCondition).map (fun c => flagField (s.faults.record c).cause) ++
  allLevels.flatMap (fun l => [oneByte (s.faults.level l).phase.code,
    timerField s.now repeatSetting (s.faults.level l).repeatTimer]) ++
  [flagField s.faults.summary, flagField s.faults.capture.isSome]

/-- Item 10, time base. -/
def State.timeItem (s : State) : List (List Byte) := [bytesOf s.now]

/-- A stream class from its selector. -/
def streamOfCode : Nat → Option StreamId
  | 0 => some .inertial
  | 1 => some .wheelFront
  | 2 => some .wheelRear
  | 3 => some .torqueRequest
  | 4 => some .riderSelect
  | _ => none

/-- An item that has no selector: its selector must be 0 (R181). -/
def unselected (selector : Nat) (fields : List (List Byte)) : Option (List (List Byte)) :=
  if selector = 0 then some fields else none

/-- The fields of an item at a selector; none when either is out of range (R181). -/
def State.itemFields (s : State) (item selector : Nat) : Option (List (List Byte)) :=
  match item with
  | 0 => unselected selector s.leanItem
  | 1 => unselected selector s.ceilingItem
  | 2 => unselected selector s.governorItem
  | 3 => unselected selector s.holdItem
  | 4 => unselected selector s.engineItem
  | 5 => (streamOfCode selector).map (fun i => streamItem s.now i (s.stream i))
  | 6 => (portOf selector).map (fun p => portItem s.now (s.port p))
  | 7 => unselected selector s.pagesItem
  | 8 => unselected selector s.mapItem
  | 9 => unselected selector s.faultsItem
  | 10 => unselected selector s.timeItem
  | _ => none

/-- READ STATE at the owner of the item (R181). -/
def State.readItem (s : State) (item selector part : Nat) : Answer :=
  match (s.itemFields item selector).bind (fun fields => (packParts [] fields)[part]?) with
  | some data => ⟨s, .done, data⟩
  | none => answerPlain s .badOperand

/-! ## The counters of READ COUNTER (R182), each block in the order of the table that lists it -/

def RouteCounts.all (c : RouteCounts) : List Nat :=
  [c.matched, c.overBudget, c.rejects, c.duplicates, c.sequenceErrors, c.accepted, c.clamped, c.forwarded]

def UnknownCounts.all (c : UnknownCounts) : List Nat := [c.dropped, c.forwarded]

def EngineCounts.all (c : EngineCounts) : List Nat := [c.startedCeiling, c.startedLean, c.startedSeal, c.voids]

def LeanCounts.all (c : LeanCounts) : List Nat :=
  [c.queued, c.overrun, c.flushed, c.referenceUnavailable, c.slideGain, c.fullTake, c.reportCopies]

def EvalCounts.all (c : EvalCounts) : List Nat := [c.evaluations, c.slipNotValid, c.cutGrowth, c.riseLimited, c.folded]

def ForwardCounts.all (c : ForwardCounts) : List Nat :=
  [c.entered, c.superseded, c.completionBuilt, c.expiryBuilt, c.intervened, c.restartDiscarded, c.monitor]

def GovCounts.all (c : GovCounts) : List Nat :=
  [c.startEntries, c.governEntries, c.limpEntries, c.bypassEntries, c.falls, c.safePoints, c.selectionApplied, c.wantedChange]

def StoreCounts.all (c : StoreCounts) : List Nat :=
  [c.pageWrites, c.sealsBegun, c.sealsPassed, c.sealFailures, c.unseals, c.maps, c.mapConflicts, c.chassisWrites]

/-- The joined and overflow counters stand once per queue, in the order Q3, Q2, Q1, Q0 (R189). -/
def PortCounts.all (c : PortCounts) : List Nat :=
  [c.delivered, c.receivedWhileOff, c.foreign, c.joined3, c.joined2, c.joined1, c.joined0, c.overflow3, c.overflow2,
   c.overflow1, c.overflow0, c.offeredWhileOff, c.sent, c.failedAttempts, c.givenUp, c.flushed, c.offEntries, c.recoveries]

def CommandCounts.all (c : CommandCounts) : List Nat :=
  [c.dashReceived, c.serviceReceived, c.malformed, c.notPermitted, c.badCommand, c.moving, c.repliesOffered, c.repliesLost,
   c.restarts]

/-- The fault unit's counters by selector: a class 1 to 12, a level as 101 to 104, or 0 for the last three (R189). -/
def FaultUnit.counters (u : FaultUnit) (selector : Nat) : Option (List Nat) :=
  if selector = 0 then some [u.captures, u.acknowledgements, u.reassertions]
  else if selector ≤ 12 then (classOfNumber selector).map (fun c => [(u.record c).occurrences])
  else (levelOf (selector - 101)).bind (fun l => if 101 ≤ selector then some [(u.level l).frames] else none)

/-- The counters of a block that has no selector: its selector must be 0 (log 12). -/
def unselectedCounts (selector : Nat) (counts : List Nat) : Option (List Nat) := if selector = 0 then some counts else none

/-- The unknown-identifier counters of a port. -/
def State.unknown (s : State) : PortId → UnknownCounts
  | .a => s.unknownA
  | .b => s.unknownB

/-- The counters of a block at a selector; none when either is out of range (R182). -/
def State.blockCounters (s : State) (block selector : Nat) : Option (List Nat) :=
  match block with
  | 0 => if selector ≤ 47 then some (s.route selector).counts.all else none
  | 1 => (portOf selector).map (fun p => (s.unknown p).all)
  | 2 => unselectedCounts selector s.engine.counts.all
  | 3 => unselectedCounts selector s.lean.counts.all
  | 4 => unselectedCounts selector s.eval.counts.all
  | 5 => unselectedCounts selector s.forwarder.counts.all
  | 6 => unselectedCounts selector s.governor.counts.all
  | 7 => unselectedCounts selector s.store.counts.all
  | 8 => (portOf selector).map (fun p => (s.port p).counts.all)
  | 9 => s.faults.counters selector
  | 10 => unselectedCounts selector s.commands.all
  | _ => none

/-- READ COUNTER at the owner of the counter (R182). -/
def State.readCount (s : State) (block selector counter : Nat) : Answer :=
  match (s.blockCounters block selector).bind (fun counts => counts[counter]?) with
  | some n => ⟨s, .done, twoBytes n⟩
  | none => answerPlain s .badOperand

/-! ## The capture record as a pair of frames (R183, R189) -/

/-- The source byte: a route index, 0x40 for Port A, 0x41 for Port B, 0xFF when absent. -/
def Source.code : Source → Byte
  | .route i => byteOf i
  | .port .a => 0x40
  | .port .b => 0x41
  | .absent => 0xFF

/-- The five data bytes of part 0. -/
def capturePart0 : Option Capture → List Byte
  | some r =>
    [0x40 ||| byteOf (flagCode r.multiple * 32) ||| byteOf r.state.code, byteOf r.cls.number, r.source.code] ++ bytesOf r.value
  | none => [0, 0, 0, 0, 0]

/-- The five data bytes of part 1; the lean is an 11-bit signed value. -/
def capturePart1 : Option Capture → List Byte
  | some r =>
    let lean : BitVec 11 := BitVec.ofInt 11 r.lean
    [0x80 ||| (lean.extractLsb' 8 3).setWidth 8, lean.extractLsb' 0 8] ++ bytesOf r.stamp ++ [byteOf r.extra]
  | none => [0x80, 0, 0, 0, 0]

end Sys2Proof.Machine
end

