-- ==== Sys2Proof/Machine/CommandUnit.lean ====
section
/-! DEFINITION. The command unit (10): replies, the standstill gate, the governor restart, what each command does once the
unit has taken it, and the taking of a command frame. -/

namespace Sys2Proof.Machine

/-! ## Replies (R179, R180) -/

/-- The identifier a reply goes out under (R179). -/
def replyId : Sender → Ident
  | .dash => dashReplyId
  | .service => serviceReplyId

/-- A reply frame: code, tag, result and five data bytes, unused ones 0 (R179). -/
def replyFrame (sender : Sender) (code tag : Byte) (result : Result) (data : List Byte) : Frame :=
  ⟨replyId sender, [code, tag, byteOf result.code] ++ data ++ List.replicate (5 - data.length) 0⟩

/-- The counts of one reply offered, and of its loss when Port A does not take it (R180, R185). -/
def CommandCounts.offerReply (c : CommandCounts) (taken : Bool) : CommandCounts :=
  { c with repliesOffered := bump c.repliesOffered, repliesLost := bumpIf (!taken) c.repliesLost }

/-- A reply frame offered to Port A's Q0, with the reply mark (R179, R180). -/
def State.offerReply (s : State) (f : Frame) : State :=
  ({ s with commands := s.commands.offerReply s.portA.takesQ0 } : State).offer .a .q0 f

/-- A reply built and offered at once (R179). -/
def State.reply (s : State) (sender : Sender) (code tag : Byte) (result : Result) (data : List Byte) : State :=
  s.offerReply (replyFrame sender code tag result data)

/-- What an owner answers, sent as the reply: refused reads and other refusals carry the data their answer names (R179). -/
def Answer.send (a : Answer) (sender : Sender) (code tag : Byte) : State := a.state.reply sender code tag a.result a.data

/-! ## The standstill gate (R177) -/

/-- A W command refused MOVING: counted and answered, no owner sees it (R177). -/
def State.refuseMoving (s : State) (code tag : Byte) : State :=
  ({ s with commands := { s.commands with moving := bump s.commands.moving } } : State).reply .service code tag .moving []

/-- A W command passed on only while standstill holds (R177). -/
def State.gated (s : State) (code tag : Byte) (run : State → State) : State :=
  if s.standstill then run s else s.refuseMoving code tag

/-! ## Governor restart (R184) -/

/-- The owners' writes at a governor restart (R22, R36, R51, R82, R99, R118, R184). -/
def State.restartBlocks (s : State) : State :=
  { s with
    inertial := unseenRecord
    wheelFront := unseenRecord
    wheelRear := unseenRecord
    torqueRequest := unseenRecord
    riderSelect := unseenRecord
    engine := s.engine.restart
    lean := s.lean.restart
    eval := s.eval.restart s.appliedPage.limpCeiling
    forwarder := s.forwarder.restart
    governor := s.governor.restart s.now }

/-- The causes that a governor restart makes absent (R173). -/
def restartHandOffs : List HandOff :=
  [.absent .inertialLoss, .absent .wheelLoss, .absent .leanSaturation, .absent .governDegraded]

/-- The restart within the part: the blocks' writes, the fault unit's view of them, and the restart count (R184, R173). -/
def State.restart (s : State) : State :=
  let restarted := s.restartBlocks
  ({ restarted with commands := { s.commands with restarts := bump s.commands.restarts } } : State).handOffs restartHandOffs

/-! ## The commands, once taken: owner and reply (R178)

A W command stands behind the gate. `runX` is the command after the unit has counted its frame. -/

/-- WRITE PAGE ENTRY. -/
def State.runWritePage (s : State) (tag page table index : Byte) (value : Half) : State :=
  s.gated 0x01 tag (fun s => (s.writePage page.toNat table.toNat index.toNat value.toNat).send .service 0x01 tag)

/-- SEAL PAGE past the gate: an accepted seal is not answered yet; every answer names the page (R125, R179; log 13). -/
def State.sealPageAt (s : State) (tag page : Byte) : State :=
  match s.sealAnswer page.toNat with
  | .accepted => s.beginSeal page.toNat tag
  | .now r => s.reply .service 0x02 tag r [page]

/-- SEAL PAGE. -/
def State.runSealPage (s : State) (tag page : Byte) : State := s.gated 0x02 tag (fun s => s.sealPageAt tag page)

/-- UNSEAL PAGE. -/
def State.runUnsealPage (s : State) (tag page : Byte) : State :=
  s.gated 0x03 tag (fun s => (s.unsealPageAt page.toNat).send .service 0x03 tag)

/-- MAP PAGE. -/
def State.runMapPage (s : State) (tag slot expected new : Byte) : State :=
  s.gated 0x04 tag (fun s => (s.mapPageAt slot.toNat expected.toNat new.toNat).send .service 0x04 tag)

/-- WRITE ROUTE FIELD. -/
def State.runWriteRoute (s : State) (tag entry field : Byte) (value : Half) : State :=
  s.gated 0x05 tag (fun s => (s.writeRoute entry.toNat field.toNat value.toNat).send .service 0x05 tag)

/-- ENABLE ROUTE. -/
def State.runEnableRoute (s : State) (tag entry : Byte) : State :=
  s.gated 0x06 tag (fun s => (s.enableRouteAt entry.toNat).send .service 0x06 tag)

/-- DISABLE ROUTE. -/
def State.runDisableRoute (s : State) (tag entry : Byte) : State :=
  s.gated 0x07 tag (fun s => (s.disableRouteAt entry.toNat).send .service 0x07 tag)

/-- WRITE CHASSIS SETTING. -/
def State.runWriteChassis (s : State) (tag item : Byte) (value : Half) : State :=
  s.gated 0x08 tag (fun s => (s.writeChassis item.toNat value).send .service 0x08 tag)

/-- RESTART GOVERNOR: the reply is built after every block has taken the restart (R184). -/
def State.runRestart (s : State) (tag : Byte) : State := s.gated 0x09 tag (fun s => s.restart.reply .service 0x09 tag .done [])

/-- The forwarder's answer to MONITOR ON/OFF (R97). -/
def State.setMonitor (s : State) (value : Nat) : Answer :=
  match flagOf value with
  | some b => answerPlain { s with forwarder := { s.forwarder with monitorOn := b } } .done
  | none => answerPlain s .badOperand

/-- MONITOR ON/OFF. -/
def State.runMonitor (s : State) (tag value : Byte) : State := (s.setMonitor value.toNat).send .service 0x0A tag

/-- CLEAR CAPTURE (R166). -/
def State.runClearCapture (s : State) (tag : Byte) : State :=
  ({ s with faults := { s.faults with capture := none } } : State).reply .service 0x0B tag .done []

/-- The fault unit's answer to ACK ALERT (R163). -/
def State.acknowledgeAt (s : State) (number : Nat) : Answer :=
  let x := s.faultSide.acknowledge s.faultEnv number
  answerPlain (s.withFaultSide x.1) x.2

/-- ACK ALERT. -/
def State.runAckAlert (s : State) (sender : Sender) (tag cls : Byte) : State :=
  (s.acknowledgeAt cls.toNat).send sender 0x0C tag

/-- READ PAGE ENTRY. -/
def State.runReadPage (s : State) (tag page table index : Byte) : State :=
  (s.readPage page.toNat table.toNat index.toNat).send .service 0x10 tag

/-- READ ROUTE FIELD. -/
def State.runReadRoute (s : State) (tag entry field : Byte) : State :=
  (s.readRoute entry.toNat field.toNat).send .service 0x11 tag

/-- READ CHASSIS SETTING. -/
def State.runReadChassis (s : State) (tag item : Byte) : State := (s.readChassis item.toNat).send .service 0x12 tag

/-- READ STATE. -/
def State.runReadState (s : State) (sender : Sender) (tag item selector part : Byte) : State :=
  (s.readItem item.toNat selector.toNat part.toNat).send sender 0x13 tag

/-- READ COUNTER. -/
def State.runReadCounter (s : State) (tag block selector counter : Byte) : State :=
  (s.readCount block.toNat selector.toNat counter.toNat).send .service 0x14 tag

/-- READ CAPTURE: part 0 and then part 1, both from the record as it stands (R183). -/
def State.runReadCapture (s : State) (sender : Sender) (tag : Byte) : State :=
  (s.reply sender 0x15 tag .done (capturePart0 s.faults.capture)).reply sender 0x15 tag .done (capturePart1 s.faults.capture)

/-- A taken command run by its name; the rows that no command frame carries are none of these. -/
def State.runCommand (s : State) : Instr → State
  | .writePageEntry tag page table index value => s.runWritePage tag page table index value
  | .sealPage tag page => s.runSealPage tag page
  | .unsealPage tag page => s.runUnsealPage tag page
  | .mapPage tag slot expected new => s.runMapPage tag slot expected new
  | .writeRouteField tag entry field value => s.runWriteRoute tag entry field value
  | .enableRoute tag entry => s.runEnableRoute tag entry
  | .disableRoute tag entry => s.runDisableRoute tag entry
  | .writeChassisSetting tag item value => s.runWriteChassis tag item value
  | .restartGovernor tag => s.runRestart tag
  | .monitorOnOff tag value => s.runMonitor tag value
  | .clearCapture tag => s.runClearCapture tag
  | .ackAlert sender tag cls => s.runAckAlert sender tag cls
  | .readPageEntry tag page table index => s.runReadPage tag page table index
  | .readRouteField tag entry field => s.runReadRoute tag entry field
  | .readChassisSetting tag item => s.runReadChassis tag item
  | .readState sender tag item selector part => s.runReadState sender tag item selector part
  | .readCounter tag block selector counter => s.runReadCounter tag block selector counter
  | .readCapture sender tag => s.runReadCapture sender tag
  | .powerOnReset => s
  | .receivedFrame _ _ => s
  | .policingWindowExpiry => s
  | .staleExpiry _ => s
  | .lostExpiry _ => s
  | .jobStart => s
  | .leanCompletion => s
  | .ceilingCompletion => s
  | .sealStepCompletion => s
  | .holdExpiry => s
  | .startTimerExpiry => s
  | .transmitArbiterChoice _ => s
  | .transmitSuccess _ => s
  | .transmitFailure _ => s
  | .recoveryTimerExpiry _ => s
  | .repeatTimerExpiry _ => s
  | .timeBaseAdvance => s

/-! ## Taking a command frame (R175, R176) -/

/-- A frame taken from an identifier is counted (R175, R185). -/
def CommandCounts.taken (c : CommandCounts) : Sender → CommandCounts
  | .dash => { c with dashReceived := bump c.dashReceived }
  | .service => { c with serviceReceived := bump c.serviceReceived }

/-- The state after the count of a taken frame. -/
def State.countTaken (s : State) (sender : Sender) : State := { s with commands := s.commands.taken sender }

/-- The codes that the dash privilege permits: ACK ALERT, READ STATE and READ CAPTURE (R176). -/
def dashPermits (code : Byte) : Bool := decide (code = 0x0C ∨ code = 0x13 ∨ code = 0x15)

/-- A dash frame refused by its privilege (R176). -/
def State.refuseNotPermitted (s : State) (code tag : Byte) : State :=
  ({ s with commands := { s.commands with notPermitted := bump s.commands.notPermitted } } : State).reply
    .dash code tag .notPermitted []

/-- A code that names no command (R176). -/
def State.refuseBadCommand (s : State) (sender : Sender) (code tag : Byte) : State :=
  ({ s with commands := { s.commands with badCommand := bump s.commands.badCommand } } : State).reply
    sender code tag .badCommand []

/-- A command frame of two bytes or more, after its count: privilege, command code, then the command (R176 to R178). -/
def State.runFrame (s : State) (sender : Sender) (data : List Byte) : State :=
  if decide (sender = .dash) && !dashPermits (dataByte data 0) then
    s.refuseNotPermitted (dataByte data 0) (dataByte data 1)
  else match commandOf sender data with
    | some c => s.runCommand c
    | none => s.refuseBadCommand sender (dataByte data 0) (dataByte data 1)

/-- The command unit takes a frame (R175): a frame of length 0 or 1 is counted and discarded. -/
def State.takeCommandFrame (s : State) (sender : Sender) (data : List Byte) : State :=
  let counted := s.countTaken sender
  if data.length < 2 then
    { counted with commands := { counted.commands with malformed := bump counted.commands.malformed } }
  else counted.runFrame sender data

end Sys2Proof.Machine
end

