-- ==== Sys2Proof/Machine/SealSteps.lean ====
section
/-! DEFINITION. The completion of a SEAL_STEP (R127), with the deferred reply to SEAL PAGE. -/

namespace Sys2Proof.Machine

/-- A passed step 1 to 3: the record advances and the next step is asked for. The running job is still there, so the ask
waits for the choice that ends the completion (R127, R32). -/
def State.advanceSeal (s : State) (r : SealRecord) : State :=
  ({ s with store := { s.store with sealRecord := some { r with step := r.step + 1 } } } : State).askSeal

/-- A passed step 4: the page is SEALED and the seal is answered DONE (R127). -/
def State.passSeal (s : State) (r : SealRecord) : State :=
  let t := s.store.modifyPage r.page (fun p => { p with state := .sealed })
  ({ s with store := { t with sealRecord := none, counts := { t.counts with sealsPassed := bump t.counts.sealsPassed } } } :
    State).reply .service 0x02 r.tag .done [byteOf r.page]

/-- A failed step: the page is OPEN again and the seal is answered SEAL_FAIL with page, table, index and reason (R127). -/
def State.failSeal (s : State) (r : SealRecord) (index : Nat) (reason : SealReason) : State :=
  let t := s.store.modifyPage r.page (fun p => { p with state := .opened })
  ({ s with store := { t with sealRecord := none, counts := { t.counts with sealFailures := bump t.counts.sealFailures } } } :
    State).reply .service 0x02 r.tag .sealFail [byteOf r.page, byteOf (r.step - 1), byteOf index, byteOf reason.code]

/-- The outcome of a step recorded by the page store (R127). -/
def State.recordStep (s : State) (r : SealRecord) (n : SealSnapshot) : State :=
  match n.outcome with
  | some (index, reason) => s.failSeal r index reason
  | none => if r.step < 4 then s.advanceSeal r else s.passSeal r

/-- SEAL_STEP_COMPLETION (R127): the running SEAL_STEP completes; it is never void (R36). A running step stands with its
seal record; with none there is nothing to record (log 6). -/
def execSealStepCompletion (s : State) : Host.Outcome State Fault Refusal :=
  .next (match s.engine.running, s.store.sealRecord with
    | some ⟨.sealStep n, _⟩, some r => (s.recordStep r n).finishJob
    | _, _ => s)

end Sys2Proof.Machine
end

