-- ==== Sys2Proof/Machine/Reception.lean ====
section
/-! DEFINITION. Reception (R140, R141) and the classifier's handling of a delivered frame (R2, R7, R8, R10, R24, R25, R175). -/

namespace Sys2Proof.Machine

/-! ## The own-identifier set (R141) -/

/-- Port A's own identifiers. -/
def ownA : List Ident := [0x0D0, 0x0F0, 0x0F1, 0x0F2, 0x0F3, 0x6E8, 0x7D8, 0x7A0]

/-- The outbound identifier of the ENABLED TORQUE_REQUEST entry, and that of the held request (R141, R95). -/
def State.outboundIds (s : State) : List Ident :=
  (match s.enabledOf .torqueRequest with
    | some i => [(s.route i).fields.rewrite.getD (s.route i).fields.ident]
    | none => []) ++
  (match s.forwarder.slot with
    | some h => [h.outbound]
    | none => [])

/-- The own-identifier set of a port, read from the present state (R141). -/
def State.ownSet (s : State) : PortId → List Ident
  | .a => ownA
  | .b => 0x0D0 :: s.outboundIds

/-! ## Port counts of reception (R156) -/

def Port.countDelivered (p : Port) : Port := { p with counts := { p.counts with delivered := bump p.counts.delivered } }
def Port.countWhileOff (p : Port) : Port := { p with counts := { p.counts with receivedWhileOff := bump p.counts.receivedWhileOff } }
def Port.countForeign (p : Port) : Port := { p with counts := { p.counts with foreign := bump p.counts.foreign } }

/-! ## The unknown-identifier action (R8) -/

/-- The unknown-identifier action of a port (R137). -/
def Chassis.unknownAction (c : Chassis) : PortId → UnknownAction
  | .a => c.unknownA
  | .b => c.unknownB

/-- The state with the unknown-identifier counters of a port changed. -/
def State.countUnknown (s : State) (p : PortId) (f : UnknownCounts → UnknownCounts) : State :=
  match p with
  | .a => { s with unknownA := f s.unknownA }
  | .b => { s with unknownB := f s.unknownB }

def UnknownCounts.drop (c : UnknownCounts) : UnknownCounts := { c with dropped := bump c.dropped }
def UnknownCounts.forward (c : UnknownCounts) : UnknownCounts := { c with forwarded := bump c.forwarded }

/-- A frame that matches no ENABLED entry (R8). -/
def State.unknownFrame (s : State) (p : PortId) (f : Frame) : State :=
  match s.store.chassis.unknownAction p with
  | .drop => s.countUnknown p UnknownCounts.drop
  | .forwardQ2 => (s.countUnknown p UnknownCounts.forward).offer p.other .q2 f
  | .forwardQ0 => (s.countUnknown p UnknownCounts.forward).offer p.other .q0 f

/-! ## The matched frame -/

/-- An admitted frame treated by the class of its entry (R10, R24, R25, R175). -/
def State.treat (s : State) (index : Nat) (p : PortId) (e : RouteFields) (f : Frame) : State :=
  match e.cls with
  | .inertial => s.supervise .inertial index p e f
  | .wheelFront => s.supervise .wheelFront index p e f
  | .wheelRear => s.supervise .wheelRear index p e f
  | .torqueRequest => s.supervise .torqueRequest index p e f
  | .riderSelect => s.supervise .riderSelect index p e f
  | .dashCommand => s.takeCommandFrame .dash f.data
  | .serviceCommand => s.takeCommandFrame .service f.data
  | .pass => s.forwardFrame index p e f

/-- A matched frame meets the budget first (R10). -/
def State.matchedFrame (s : State) (index : Nat) (p : PortId) (f : Frame) : State :=
  if (s.route index).admits then (s.modifyRoute index RouteEntry.countAdmitted).treat index p (s.route index).fields f
  else s.modifyRoute index RouteEntry.dropFrame

/-- A delivered frame, stamped by the present count and looked up (R1, R2, R7). -/
def State.deliver (s : State) (p : PortId) (f : Frame) : State :=
  match s.lookup p f.ident with
  | some index => s.matchedFrame index p f
  | none => s.unknownFrame p f

/-- A foreign frame is dropped, counted and raised as READBACK_MISMATCH (R141). -/
def State.foreignFrame (s : State) (p : PortId) (f : Frame) : State :=
  (s.setPort p (s.port p).countForeign).handOff (.event .readbackMismatch (.port p) (f.ident.setWidth 16))

/-- RECEIVED_FRAME (R140). -/
def execReceivedFrame (p : PortId) (f : Frame) (s : State) : Host.Outcome State Fault Refusal :=
  .next (if (s.port p).mode = .off then s.setPort p (s.port p).countWhileOff
    else if f.ident ∈ s.ownSet p then s.foreignFrame p f
    else (s.setPort p (s.port p).countDelivered).deliver p f)

end Sys2Proof.Machine
end

