-- ==== Sys2Proof/Machine/ServiceCommands.lean ====
section
/-! DEFINITION. The meanings of the service and dash commands as commands of their own: the command unit takes the command,
counts its frame and runs it (R175 to R178; log 1). -/

namespace Sys2Proof.Machine

/-- WRITE_PAGE_ENTRY (R123): a service command behind the standstill gate. -/
def execWritePageEntry (tag page table index : Byte) (value : Half) (s : State) : Host.Outcome State Fault Refusal :=
  .next ((s.countTaken .service).runWritePage tag page table index value)

/-- SEAL_PAGE (R125): a service command behind the gate; an accepted seal is answered at its end (R127). -/
def execSealPage (tag page : Byte) (s : State) : Host.Outcome State Fault Refusal :=
  .next ((s.countTaken .service).runSealPage tag page)

/-- UNSEAL_PAGE (R129): a service command behind the gate. -/
def execUnsealPage (tag page : Byte) (s : State) : Host.Outcome State Fault Refusal :=
  .next ((s.countTaken .service).runUnsealPage tag page)

/-- MAP_PAGE (R131): a service command behind the gate. -/
def execMapPage (tag slot expected new : Byte) (s : State) : Host.Outcome State Fault Refusal :=
  .next ((s.countTaken .service).runMapPage tag slot expected new)

/-- WRITE_ROUTE_FIELD (R4): a service command behind the gate. -/
def execWriteRouteField (tag entry field : Byte) (value : Half) (s : State) : Host.Outcome State Fault Refusal :=
  .next ((s.countTaken .service).runWriteRoute tag entry field value)

/-- ENABLE_ROUTE (R5): a service command behind the gate. -/
def execEnableRoute (tag entry : Byte) (s : State) : Host.Outcome State Fault Refusal :=
  .next ((s.countTaken .service).runEnableRoute tag entry)

/-- DISABLE_ROUTE (R6): a service command behind the gate. -/
def execDisableRoute (tag entry : Byte) (s : State) : Host.Outcome State Fault Refusal :=
  .next ((s.countTaken .service).runDisableRoute tag entry)

/-- WRITE_CHASSIS_SETTING (R133): a service command behind the gate. -/
def execWriteChassisSetting (tag item : Byte) (value : Half) (s : State) : Host.Outcome State Fault Refusal :=
  .next ((s.countTaken .service).runWriteChassis tag item value)

/-- RESTART_GOVERNOR (R184): a service command behind the gate. -/
def execRestartGovernor (tag : Byte) (s : State) : Host.Outcome State Fault Refusal :=
  .next ((s.countTaken .service).runRestart tag)

/-- MONITOR_ON_OFF (R97): a service command without the gate. -/
def execMonitorOnOff (tag value : Byte) (s : State) : Host.Outcome State Fault Refusal :=
  .next ((s.countTaken .service).runMonitor tag value)

/-- CLEAR_CAPTURE (R166): a service command without the gate. -/
def execClearCapture (tag : Byte) (s : State) : Host.Outcome State Fault Refusal :=
  .next ((s.countTaken .service).runClearCapture tag)

/-- ACK_ALERT (R163): a dash or service command without the gate. -/
def execAckAlert (sender : Sender) (tag cls : Byte) (s : State) : Host.Outcome State Fault Refusal :=
  .next ((s.countTaken sender).runAckAlert sender tag cls)

/-- READ_PAGE_ENTRY (R124). -/
def execReadPageEntry (tag page table index : Byte) (s : State) : Host.Outcome State Fault Refusal :=
  .next ((s.countTaken .service).runReadPage tag page table index)

/-- READ_ROUTE_FIELD (R183). -/
def execReadRouteField (tag entry field : Byte) (s : State) : Host.Outcome State Fault Refusal :=
  .next ((s.countTaken .service).runReadRoute tag entry field)

/-- READ_CHASSIS_SETTING (R133). -/
def execReadChassisSetting (tag item : Byte) (s : State) : Host.Outcome State Fault Refusal :=
  .next ((s.countTaken .service).runReadChassis tag item)

/-- READ_STATE (R181): a dash or service command. -/
def execReadState (sender : Sender) (tag item selector part : Byte) (s : State) : Host.Outcome State Fault Refusal :=
  .next ((s.countTaken sender).runReadState sender tag item selector part)

/-- READ_COUNTER (R182). -/
def execReadCounter (tag block selector counter : Byte) (s : State) : Host.Outcome State Fault Refusal :=
  .next ((s.countTaken .service).runReadCounter tag block selector counter)

/-- READ_CAPTURE (R183): a dash or service command. -/
def execReadCapture (sender : Sender) (tag : Byte) (s : State) : Host.Outcome State Fault Refusal :=
  .next ((s.countTaken sender).runReadCapture sender tag)

end Sys2Proof.Machine
end

