-- ==== Sys2Proof/Machine/Resets.lean ====
section
/-! DEFINITION. Power-on reset and the passing of time: the advance of the time base, and the step of an empty queue. -/

namespace Sys2Proof.Machine

/-- POWER_ON_RESET (R29, with R3, R8, R22, R27, R52, R81, R97, R100, R119, R128, R139, R156, R173, R185): every block to
its defaults. The model's own queue and count of free choices stand (log 19). -/
def execPowerOnReset (s : State) : Host.Outcome State Fault Refusal :=
  .next { State.reset with pending := s.pending, draws := s.draws }

/-- The steps of 0.1 ms in a millisecond (R85). -/
def tenthsPerCount : Nat := 10

/-- TIME_BASE_ADVANCE (R1): the count advances by one, wrapping. The millisecond is over: what has not passed of it in idle
steps passes on the hold timer (R85; DESIGN CHOICE, log 5). What falls due is taken by its own command (log 4). -/
def execTimeBaseAdvance (s : State) : Host.Outcome State Fault Refusal :=
  .next { s with now := s.now + 1, tenths := 0, forwarder := s.forwarder.elapse (tenthsPerCount - s.tenths) }

/-- 0.1 ms passes: on the hold timer while it runs, and in the present millisecond (R85; DESIGN CHOICE, log 5). -/
def State.passTenth (s : State) : State :=
  { s with tenths := min (s.tenths + 1) tenthsPerCount, forwarder := s.forwarder.elapse 1 }

/-- The step of an empty queue: a hold expiry that is due takes place by itself; otherwise 0.1 ms passes (R85; DESIGN
CHOICE, log 5). -/
def State.idle (s : State) : State := if s.forwarder.holdDue then s.expireHold else s.passTenth

end Sys2Proof.Machine
end

