-- ==== Sys2Proof/Machine/Dispatch.lean ====
section
/-! DEFINITION. One arm per command: each calls the meaning of its own. -/

namespace Sys2Proof.Machine

def exec (i : Instr) (s : State) : Host.Outcome State Fault Refusal :=
  match i with
  | .powerOnReset => Sys2Proof.Machine.execPowerOnReset s
  | .receivedFrame port frame => Sys2Proof.Machine.execReceivedFrame port frame s
  | .policingWindowExpiry => Sys2Proof.Machine.execPolicingWindowExpiry s
  | .staleExpiry stream => Sys2Proof.Machine.execStaleExpiry stream s
  | .lostExpiry stream => Sys2Proof.Machine.execLostExpiry stream s
  | .jobStart => Sys2Proof.Machine.execJobStart s
  | .leanCompletion => Sys2Proof.Machine.execLeanCompletion s
  | .ceilingCompletion => Sys2Proof.Machine.execCeilingCompletion s
  | .sealStepCompletion => Sys2Proof.Machine.execSealStepCompletion s
  | .holdExpiry => Sys2Proof.Machine.execHoldExpiry s
  | .startTimerExpiry => Sys2Proof.Machine.execStartTimerExpiry s
  | .transmitArbiterChoice port => Sys2Proof.Machine.execTransmitArbiterChoice port s
  | .transmitSuccess port => Sys2Proof.Machine.execTransmitSuccess port s
  | .transmitFailure port => Sys2Proof.Machine.execTransmitFailure port s
  | .recoveryTimerExpiry port => Sys2Proof.Machine.execRecoveryTimerExpiry port s
  | .repeatTimerExpiry level => Sys2Proof.Machine.execRepeatTimerExpiry level s
  | .writePageEntry tag page table index value => Sys2Proof.Machine.execWritePageEntry tag page table index value s
  | .sealPage tag page => Sys2Proof.Machine.execSealPage tag page s
  | .unsealPage tag page => Sys2Proof.Machine.execUnsealPage tag page s
  | .mapPage tag slot expected new => Sys2Proof.Machine.execMapPage tag slot expected new s
  | .writeRouteField tag entry field value => Sys2Proof.Machine.execWriteRouteField tag entry field value s
  | .enableRoute tag entry => Sys2Proof.Machine.execEnableRoute tag entry s
  | .disableRoute tag entry => Sys2Proof.Machine.execDisableRoute tag entry s
  | .writeChassisSetting tag item value => Sys2Proof.Machine.execWriteChassisSetting tag item value s
  | .restartGovernor tag => Sys2Proof.Machine.execRestartGovernor tag s
  | .monitorOnOff tag value => Sys2Proof.Machine.execMonitorOnOff tag value s
  | .clearCapture tag => Sys2Proof.Machine.execClearCapture tag s
  | .ackAlert sender tag cls => Sys2Proof.Machine.execAckAlert sender tag cls s
  | .readPageEntry tag page table index => Sys2Proof.Machine.execReadPageEntry tag page table index s
  | .readRouteField tag entry field => Sys2Proof.Machine.execReadRouteField tag entry field s
  | .readChassisSetting tag item => Sys2Proof.Machine.execReadChassisSetting tag item s
  | .readState sender tag item selector part => Sys2Proof.Machine.execReadState sender tag item selector part s
  | .readCounter tag block selector counter => Sys2Proof.Machine.execReadCounter tag block selector counter s
  | .readCapture sender tag => Sys2Proof.Machine.execReadCapture sender tag s
  | .timeBaseAdvance => Sys2Proof.Machine.execTimeBaseAdvance s

end Sys2Proof.Machine
end

