-- ==== Sys2Proof/Safety.lean ====
section
/-! DEFINITION. What counts as a sound state of the part, block by block, in the terms the statements use. Each predicate is
kept by every step, and names the rule whose standing promise it is. -/

namespace Sys2Proof.Machine

/-! ## Ports (R142, R144, R149, R152) -/

/-- The depths of the queues, one frame of each level in Q1, the range of the failed-attempt number and of the credits, and
what a port's state says of the rest of it. -/
structure Port.Bounded (p : Port) : Prop where
  depth3 : p.q3.length ≤ 2
  depth2 : p.q2.length ≤ 4
  levels1 : (p.q1.map (·.level)).Nodup
  depth0 : p.q0.length ≤ 16
  attempts : ∀ f, p.slot = some f → f.failed < 8
  credits : p.credit2 ≤ 4 ∧ p.credit1 ≤ 2 ∧ p.credit0 ≤ 1
  off : p.mode = .off →
    p.slot = none ∧ p.q3 = [] ∧ p.q2 = [] ∧ p.q1 = [] ∧ p.q0 = [] ∧ p.errorCount = 255 ∧ p.recoveryTimer ≠ none
  on : p.mode ≠ .off → p.mode = modeOf p.errorCount ∧ p.errorCount ≤ 255 ∧ p.recoveryTimer = none

/-- The arbiter has chosen: a port that is not OFF and holds a waiting frame has a frame in its slot (R147). -/
def Port.Chosen (p : Port) : Prop :=
  p.mode ≠ .off → p.slot = none → p.q3 = [] ∧ p.q2 = [] ∧ p.q1 = [] ∧ p.q0 = []

/-- A sound port. -/
def Port.Sound (p : Port) : Prop := p.Bounded ∧ p.Chosen

/-- Both ports are sound. -/
def State.PortsSound (s : State) : Prop := s.portA.Sound ∧ s.portB.Sound

/-! ## Route table (R2, R5) -/

/-- The table has 48 entries, no two ENABLED ones share port and identifier or a class other than PASS, and every ENABLED
entry satisfies the relations that ENABLE ROUTE checks. -/
structure State.RoutesSound (s : State) : Prop where
  length : s.routes.length = 48
  apart : ∀ i j, i ≠ j → (s.route i).state = .enabled → (s.route j).state = .enabled →
    ¬((s.route i).fields.port = (s.route j).fields.port ∧ (s.route i).fields.ident = (s.route j).fields.ident)
  classes : ∀ i j, i ≠ j → (s.route i).state = .enabled → (s.route j).state = .enabled →
    (s.route i).fields.cls ≠ .pass → (s.route i).fields.cls ≠ (s.route j).fields.cls
  relations : ∀ i, (s.route i).state = .enabled → (s.route i).fields.relationsFail = false

/-! ## Stream records (R16 to R22) -/

/-- What a stream's state says of its timers, its held values and its counts. -/
structure StreamRecord.Sound (r : StreamRecord) : Prop where
  held : r.state.trusted → r.latest ≠ none ∧ r.lostTimer ≠ none ∧ r.rejects ≤ 3 ∧ r.recovery = 0
  stale : r.staleTimer ≠ none ↔ r.state = .fresh
  untrusted : r.state.trusted = false → r.lostTimer = none ∧ r.history = []
  out : r.state.out → r.rejects = 0 ∧ r.recovery ≤ 7
  unseen : r.state = .unseen →
    r.latest = none ∧ r.lastAlive = none ∧ r.stepReference = none ∧ r.stamp = 0 ∧ r.rejects ≤ 4 ∧ r.recovery = 0
  marks : r.history.length ≤ 16 ∧ r.history.count true ≤ 2

/-- All five records are sound. -/
def State.StreamsSound (s : State) : Prop := ∀ i, (s.stream i).Sound

/-! ## Lean estimate (R38, R48) -/

/-- The lean estimate is within its clamp. -/
def State.LeanSound (s : State) : Prop := -6500 ≤ s.lean.lean ∧ s.lean.lean ≤ 6500

/-! ## Engine and hold slot (R30 to R33, R84, R85) -/

/-- An IDLE engine has nothing pending, at most four samples wait, a SEAL_STEP that is pending or running has its seal record
and is not both, and a held request has its timer running and a CEILING job pending or running for it. -/
structure State.EngineSound (s : State) : Prop where
  idle : s.engine.running = none → s.engine.ceilingPending = false ∧ s.lean.queue = [] ∧ s.engine.sealPending = false
  depth : s.lean.queue.length ≤ 4
  absorbed : s.engine.ceilingPending → s.engine.ceilingRunning = false
  steps : s.engine.sealPending → s.store.sealRecord ≠ none
  step : ∀ n v, s.engine.running = some ⟨.sealStep n, v⟩ → s.store.sealRecord ≠ none ∧ s.engine.sealPending = false
  timer : s.forwarder.slot ≠ none ↔ s.forwarder.holdTimer ≠ none
  served : s.forwarder.slot ≠ none → s.engine.ceilingPending ∨ s.engine.ceilingRunning

/-! ## Traction cut (R67 to R69, R77, R111) -/

/-- The cut is within 0 to 250, and 0 whenever the state is not GOVERN. The other clauses are what carries this through a
running CEILING job. -/
structure State.CutSound (s : State) : Prop where
  limit : s.eval.cut ≤ 250
  outside : s.governor.state ≠ .govern → s.eval.cut = 0
  folded : s.eval.fold → s.eval.cut = 0
  withdrawn : s.governor.withdrawn → s.eval.fold ∧ s.engine.ceilingRunning
  snapshot : ∀ n v, s.engine.running = some ⟨.ceiling n, v⟩ → n.cut ≤ 250

/-! ## Pages and the published ceiling (R73, R122, R126, R129) -/

/-- A page passes the checks of a seal step as it stands (R126). -/
def Page.Passes (p : Page) (step : Nat) : Prop := sealScan step p.hardCeiling 0 none (p.stepTable step) = none

/-- The tables of a page have their lengths (R121). -/
def Page.Shaped (p : Page) : Prop :=
  p.ceiling.length = 13 ∧ p.slipTarget.length = 13 ∧ p.brake.length = 13 ∧ p.scalars.length = 8

/-- A page number names a SEALED page. -/
def State.Sealed (s : State) (page : Nat) : Prop := page < 8 ∧ (s.store.page page).state = .sealed

/-- Page 0 is the ROM page; SEALED pages pass every check; a SEALING page is that of the seal record and passes the steps
before the record's; every page that is mapped, applied or about to be applied is SEALED; and the published ceiling is within
the hard ceiling of the applied page. -/
structure State.PagesSound (s : State) : Prop where
  length : s.store.pages.length = 8
  rom : s.store.page 0 = romPage
  shaped : ∀ i, i < 8 → (s.store.page i).Shaped
  passed : ∀ i, s.Sealed i → ∀ k, 1 ≤ k → k ≤ 4 → (s.store.page i).Passes k
  sealing : ∀ i, i < 8 → (s.store.page i).state = .sealing → ∃ r, s.store.sealRecord = some r ∧ r.page = i
  record : ∀ r, s.store.sealRecord = some r →
    r.page < 8 ∧ (s.store.page r.page).state = .sealing ∧ 1 ≤ r.step ∧ r.step ≤ 4 ∧
      ∀ k, 1 ≤ k → k < r.step → (s.store.page r.page).Passes k
  running : ∀ n v, s.engine.running = some ⟨.sealStep n, v⟩ →
    ∃ r, s.store.sealRecord = some r ∧ n = s.sealSnapshot r
  mapLength : s.store.pageMap.length = 12
  mapped : ∀ p, p ∈ s.store.pageMap → s.Sealed p
  applied : s.Sealed s.governor.appliedPage
  committing : s.engine.ceilingRunning → ∃ d, s.governor.committing = some d ∧ s.Sealed d.page
  published : s.eval.published ≤ s.appliedPage.hardCeiling

/-! ## Conditions and alert levels (R117, R155, R157, R161, R168) -/

/-- The cause mark of each condition class is the condition its owner holds. -/
structure State.CausesMatch (s : State) : Prop where
  length : s.faults.classes.length = 12
  inertialLoss : (s.faults.record .inertialLoss).cause = s.inertial.state.out
  wheelLoss : (s.faults.record .wheelLoss).cause = (s.wheelFront.state.out || s.wheelRear.state.out)
  portBFault : (s.faults.record .portBFault).cause = s.portB.faultPresent
  leanSaturation : (s.faults.record .leanSaturation).cause = s.lean.saturated
  governDegraded : (s.faults.record .governDegraded).cause = s.governor.degraded
  portAFault : (s.faults.record .portAFault).cause = s.portA.faultPresent

/-- What a level's phase says of its shown mask and its repeat timer (R168). -/
def LevelSound (map : List AlertSetting) (u : FaultUnit) (l : Level) : Prop :=
  match (u.level l).phase with
  | .idle => shownMask map u l = [] ∧ (u.level l).repeatTimer = none
  | .active => shownMask map u l ≠ [] ∧ (u.level l).repeatTimer ≠ none
  | .closing => shownMask map u l = [] ∧ (u.level l).repeatTimer ≠ none

/-- A condition whose cause is present is asserted, and one with release type FOLLOW is asserted only then (R161). -/
def ConditionSound (map : List AlertSetting) (u : FaultUnit) (c : FaultClass) : Prop :=
  c.isCondition →
    ((u.record c).cause → (u.record c).asserted) ∧
    ((u.record c).asserted → (settingOf map c).release = .follow → (u.record c).cause)

/-- The fault unit's records have their lengths, and every level and condition is sound. -/
structure State.FaultsSound (s : State) : Prop where
  classes : s.faults.classes.length = 12
  levels : s.faults.levels.length = 4
  map : s.store.chassis.alertMap.length = 12
  level : ∀ l, LevelSound s.store.chassis.alertMap s.faults l
  condition : ∀ c, ConditionSound s.store.chassis.alertMap s.faults c

/-! ## Terms of the statements about reception and replies -/

/-- A frame reaches the classifier at a port and matches entry `i`: the port is not OFF, the frame is not foreign, and lookup
finds the entry (R140, R141, R2). -/
structure State.Matched (s : State) (p : PortId) (f : Frame) (i : Nat) : Prop where
  on : (s.port p).mode ≠ .off
  notForeign : f.ident ∉ s.ownSet p
  found : s.lookup p f.ident = some i

/-- Entry `i` admits one more frame in the present window (R10). -/
def State.HasBudget (s : State) (i : Nat) : Prop :=
  (s.route i).fields.budget = 0 ∨ (s.route i).windowCount < (s.route i).fields.budget

/-- The delivered count of a port increased (R140). -/
def State.delivered (s : State) (p : PortId) : State :=
  s.setPort p { s.port p with counts := { (s.port p).counts with delivered := bump (s.port p).counts.delivered } }

/-- The state after a frame is delivered at a port and admitted by entry `i`: the delivered count, the matched count, and the
window count unless the budget is unlimited (R140, R10). -/
def State.admitted (s : State) (p : PortId) (i : Nat) : State :=
  (s.delivered p).modifyRoute i (fun e => { e with
    windowCount := if e.fields.budget = 0 then e.windowCount else e.windowCount + 1
    counts := { e.counts with matched := bump e.counts.matched } })

/-- The state in which the command unit has counted a frame taken from an identifier and runs its command (R175, R185). -/
def State.takenFrom (s : State) (sender : Sender) : State :=
  { s with commands := match sender with
    | .dash => { s.commands with dashReceived := bump s.commands.dashReceived }
    | .service => { s.commands with serviceReceived := bump s.commands.serviceReceived } }

/-- A port to which alert frames alone have been offered since it stood otherwise: nothing joined Q3, Q2 or Q0 (R144). -/
def Port.AlertedTo (p q : Port) : Prop :=
  ∃ frames : List (Level × Frame), q = frames.foldl (fun r x => r.offerAlert x.1 x.2) p

/-- Nothing but the fault unit and Port A differs between two states. -/
def SameButFaults (s t : State) : Prop := t = { s with faults := t.faults, portA := t.portA }

/-- Nothing but the fault unit, Port A and the number of free choices made differs between two states. -/
def SameButHandOffs (s t : State) : Prop := t = { s with faults := t.faults, portA := t.portA, draws := t.draws }

end Sys2Proof.Machine
end

