-- ==== Sys2Proof/Certificates/Slice0/Obligations.lean ====
section
/-! DEFINITION. The statements about the part, in the order of the chapters. -/

open Sys2Proof Sys2Proof.Machine

/-! ## The step, the idle step, the resets and the time base -/

/-- A step takes the front command and is its `exec` on the rest of the queue (host convention). -/
def Obligations.StepRunsFrontCommand : Prop :=
  ∀ (c : Instr) (s : State) (rest : List Instr),
    step { s with pending := c :: rest } = exec c { s with pending := rest }

/-- Time passes in two ways, and the way it reaches the hold timer is the model's choice (log 5). TIME_BASE_ADVANCE: the count advances
by one and wraps from 65535 to 0, the rest of the millisecond's ten steps passes on the hold timer while it runs, and nothing else
changes (R1; that what falls due is taken by its own command is log 4). An empty queue: 0.1 ms on the hold timer while it runs, or the
hold expiry itself once the hold limit has elapsed (R85). -/
def Obligations.TimePasses : Prop :=
  ∀ s : State,
    (∃ t, exec .timeBaseAdvance s = .next t ∧
      t = { s with now := t.now, tenths := 0, forwarder := { s.forwarder with holdTimer := t.forwarder.holdTimer } } ∧
      (t.now.toNat = if s.now.toNat = 65535 then 0 else s.now.toNat + 1) ∧
      (∀ h age, s.forwarder.slot = some h → s.forwarder.holdTimer = some age →
        t.forwarder.holdTimer = some (min (age + (10 - s.tenths)) h.holdLimit)) ∧
      (s.forwarder.slot = none ∨ s.forwarder.holdTimer = none → t.forwarder = s.forwarder)) ∧
    (s.pending = [] →
      (∀ h age, s.forwarder.slot = some h → s.forwarder.holdTimer = some age →
        (age < h.holdLimit → step s = .next { s with
          tenths := min (s.tenths + 1) 10, forwarder := { s.forwarder with holdTimer := some (age + 1) } }) ∧
        (h.holdLimit ≤ age → step s = exec .holdExpiry s)) ∧
      (s.forwarder.slot = none ∨ s.forwarder.holdTimer = none → step s = .next { s with tenths := min (s.tenths + 1) 10 }))

/-- The state after power-on reset is sound in every sense of Safety.lean. -/
def Obligations.ResetIsSound : Prop :=
  State.reset.PortsSound ∧ State.reset.RoutesSound ∧ State.reset.StreamsSound ∧ State.reset.LeanSound ∧
    State.reset.EngineSound ∧ State.reset.CutSound ∧ State.reset.PagesSound ∧ State.reset.CausesMatch ∧
    State.reset.FaultsSound

/-- POWER_ON_RESET gives every block the values its chapter lists, whatever stood before: the ROM default route set and blank entries (R3),
every stream UNSEEN (R22), the engine, estimator, evaluator, forwarder and governor control at theirs (R29, R52, R81, R100, R119), page 0
and the blank pages, the map and every chassis default (R121, R134 to R139), the ports (R156), the fault unit (R173), and every count 0. The
queue and the count of free choices stand, and the steps of the millisecond start again: the model's choices (logs 19 and 21). -/
def Obligations.PowerOnResetValues : Prop :=
  ∀ s : State, ∃ t, exec .powerOnReset s = .next t ∧ t.pending = s.pending ∧ t.draws = s.draws ∧ t.tenths = 0 ∧
    t.now = 0 ∧ t.policingStart = 0 ∧
    t.routes = ([
      ⟨.a, 0x0A4, .inertial, .nowhere, none, 15, true, 25, 100, 10, 10⟩,
      ⟨.a, 0x0B1, .wheelFront, .otherQ2, none, 8, true, 50, 200, 20, 10⟩,
      ⟨.a, 0x0B2, .wheelRear, .otherQ2, none, 8, true, 50, 200, 20, 10⟩,
      ⟨.a, 0x0C0, .torqueRequest, .nowhere, some 0x0C8, 15, true, 50, 200, 10, 10⟩,
      ⟨.a, 0x1E0, .riderSelect, .nowhere, none, 4, true, 500, 2000, 40, 10⟩,
      ⟨.a, 0x6E0, .dashCommand, .nowhere, none, 20, false, 50, 200, 10, 10⟩,
      ⟨.a, 0x7D0, .serviceCommand, .nowhere, none, 40, false, 50, 200, 10, 10⟩,
      ⟨.b, 0x2A0, .pass, .otherQ0, none, 10, false, 50, 200, 10, 10⟩,
      ⟨.b, 0x2B0, .pass, .otherQ0, none, 10, false, 50, 200, 10, 10⟩] : List RouteFields).map
        (fun f => ⟨.enabled, f, 0, false, 0, ⟨0, 0, 0, 0, 0, 0, 0, 0⟩⟩) ++
      List.replicate 39 ⟨.free, ⟨.a, 0x000, .pass, .nowhere, none, 0, false, 50, 200, 10, 10⟩, 0, false, 0,
        ⟨0, 0, 0, 0, 0, 0, 0, 0⟩⟩ ∧
    t.unknownA = ⟨0, 0⟩ ∧ t.unknownB = ⟨0, 0⟩ ∧
    (∀ i, t.stream i = ⟨.unseen, none, 0, none, none, 0, [], 0, none, none⟩) ∧
    t.engine = ⟨none, false, false, ⟨0, 0, 0, 0⟩⟩ ∧
    t.lean = ⟨0, false, none, false, 0, 0, [], ⟨0, 0, 0, 0, 0, 0, 0⟩⟩ ∧
    t.eval = ⟨0, 60, 0, false, false, false, false, ⟨0, 0, 0, 0, 0⟩⟩ ∧
    t.forwarder = ⟨none, none, 0, false, ⟨0, 0, 0, 0, 0, 0, 0⟩⟩ ∧
    t.governor = ⟨.start, ⟨1, 0, true⟩, ⟨1, 0, true⟩, 0, none, false, .running 0, ⟨0, 0, 0, 0, 0, 0, 0, 0⟩⟩ ∧
    t.store.pages =
      ⟨.sealed, [90, 90, 88, 84, 78, 70, 62, 54, 46, 40, 34, 30, 30], [60, 60, 55, 50, 45, 40, 35, 30, 28, 26, 24, 22, 20],
        [160, 155, 145, 130, 115, 100, 85, 72, 60, 50, 42, 36, 32], [8, 2, 30, 8, 1, 3, 60, 90]⟩ ::
      List.replicate 7 ⟨.opened, List.replicate 13 0, List.replicate 13 0, List.replicate 13 0, List.replicate 8 0⟩ ∧
    t.store.sealRecord = none ∧ t.store.pageMap = List.replicate 12 0 ∧ t.store.counts = ⟨0, 0, 0, 0, 0, 0, 0, 0⟩ ∧
    t.store.chassis.windows = [⟨-3000, 3000, some 800⟩, ⟨-3000, 3000, some 800⟩, ⟨-400, 400, none⟩,
      ⟨0, 3000, some 150⟩, ⟨0, 3000, some 150⟩, ⟨0, 250, none⟩] ∧
    t.store.chassis.frontRadius = [4096, 4095, 4093, 4090, 4086, 4081, 4075, 4068, 4060, 4052, 4044, 4036, 4028, 4020] ∧
    t.store.chassis.rearRadius = [4096, 4094, 4089, 4081, 4071, 4058, 4043, 4026, 4008, 3990, 3972, 3954, 3936, 3918] ∧
    t.store.chassis.decimation = 2 ∧ t.store.chassis.reportToA = true ∧
    t.store.chassis.unknownA = .drop ∧ t.store.chassis.unknownB = .forwardQ0 ∧ t.store.chassis.vectorBase = 5 ∧
    t.store.chassis.alertMap = [⟨3, false, .follow⟩, ⟨3, false, .follow⟩, ⟨1, false, .latched⟩, ⟨1, false, .latched⟩,
      ⟨0, false, .latched⟩, ⟨1, false, .latched⟩, ⟨0, false, .latched⟩, ⟨3, false, .follow⟩, ⟨3, false, .latched⟩,
      ⟨1, false, .follow⟩, ⟨2, false, .follow⟩, ⟨2, true, .follow⟩] ∧
    (∀ p, t.port p = ⟨.active, 0, 0, [], [], [], [], none, 4, 2, 1, none,
      ⟨0, 0, 0, 0, 0, 0, 0, 0, 0, 0, 0, 0, 0, 0, 0, 0, 0, 0⟩⟩) ∧
    t.faults.classes.length = 12 ∧
    (∀ c, (t.faults.record c).asserted = false ∧ (t.faults.record c).cause = false ∧ (t.faults.record c).occurrences = 0) ∧
    t.faults.levels = List.replicate 4 ⟨.idle, none, 0⟩ ∧ t.faults.capture = none ∧
    t.faults.captures = 0 ∧ t.faults.acknowledgements = 0 ∧ t.faults.reassertions = 0 ∧
    t.commands = ⟨0, 0, 0, 0, 0, 0, 0, 0, 0⟩

/-! ## Reception and the classifier (01, 08) -/

/-- Frames that go no further. One received while its port is OFF is counted there (R140). A foreign one is counted and raises
READBACK_MISMATCH with its port and identifier (R141). One over its entry's budget is counted and marks the window (R10). A duplicate is
counted as matched and as a duplicate, with no record, timer, occurrence or forwarded copy (R13). -/
def Obligations.FramesDropped : Prop :=
  (∀ (s : State) (p : PortId) (f : Frame),
      ((s.port p).mode = .off → exec (.receivedFrame p f) s = .next
        (s.setPort p { s.port p with counts := { (s.port p).counts with
          receivedWhileOff := bump (s.port p).counts.receivedWhileOff } })) ∧
      ((s.port p).mode ≠ .off → f.ident ∈ s.ownSet p → exec (.receivedFrame p f) s = .next
        ((s.setPort p { s.port p with counts := { (s.port p).counts with foreign := bump (s.port p).counts.foreign } }).handOff
          (.event .readbackMismatch (.port p) (BitVec.ofNat 16 f.ident.toNat))))) ∧
  (∀ (s : State) (p : PortId) (f : Frame) (i : Nat), s.Matched p f i →
      (¬ s.HasBudget i → exec (.receivedFrame p f) s = .next ((s.delivered p).modifyRoute i (fun e => { e with
        droppedMark := true
        counts := { e.counts with overBudget := bump e.counts.overBudget } }))) ∧
      (∀ k, s.HasBudget i → streamOf (s.route i).fields.cls = some k →
        judge s.store.chassis k (s.stream k) (s.route i).fields f = .duplicate →
        exec (.receivedFrame p f) s = .next
          ((s.admitted p i).countRoute i (fun c => { c with duplicates := bump c.duplicates }))))

/-- The identifiers a port holds back and those it looks up. Foreign on Port A: the fixed eight; on Port B: the lean report's, the
outbound identifier of the ENABLED TORQUE_REQUEST entry, and that of the held request (R141). Lookup finds an entry exactly when it is
ENABLED with the frame's port and identifier (R2, under the uniqueness that R5 keeps). -/
def Obligations.IdentifiersMatched : Prop :=
  ∀ (s : State) (id : Ident), s.RoutesSound →
    (id ∈ s.ownSet .a ↔ id ∈ ([0x0D0, 0x0F0, 0x0F1, 0x0F2, 0x0F3, 0x6E8, 0x7D8, 0x7A0] : List Ident)) ∧
    (id ∈ s.ownSet .b ↔
      id = 0x0D0 ∨
      (∃ i, (s.route i).state = .enabled ∧ (s.route i).fields.cls = .torqueRequest ∧
        id = match (s.route i).fields.rewrite with
          | some r => r
          | none => (s.route i).fields.ident) ∨
      (∃ h, s.forwarder.slot = some h ∧ id = h.outbound)) ∧
    (∀ p i, s.lookup p id = some i ↔
      (s.route i).state = .enabled ∧ (s.route i).fields.port = p ∧ (s.route i).fields.ident = id)

/-- Frames sent on unread. One that matches no ENABLED entry is dropped, or offered unmodified to the other port's Q2 or Q0, as its
port's action says, and counted there (R8). A PASS frame admitted by the budget goes as its entry's forward field directs, under the
rewrite identifier when there is one, its data unchanged; with forward NONE it is only counted (R25). -/
def Obligations.FramesForwarded : Prop :=
  (∀ (s : State) (p : PortId) (f : Frame), (s.port p).mode ≠ .off → f.ident ∉ s.ownSet p → s.lookup p f.ident = none →
      ∃ t, exec (.receivedFrame p f) s = .next t ∧
        t = { s with unknownA := t.unknownA, unknownB := t.unknownB, portA := t.portA, portB := t.portB } ∧
        t.port p = (s.delivered p).port p ∧
        (match s.store.chassis.unknownAction p with
          | .drop => t.unknown p = { s.unknown p with dropped := bump (s.unknown p).dropped } ∧ t.port p.other = s.port p.other
          | .forwardQ2 => t.unknown p = { s.unknown p with forwarded := bump (s.unknown p).forwarded } ∧
              t.port p.other = (s.port p.other).offer .q2 f
          | .forwardQ0 => t.unknown p = { s.unknown p with forwarded := bump (s.unknown p).forwarded } ∧
              t.port p.other = (s.port p.other).offer .q0 f) ∧
        t.unknown p.other = s.unknown p.other) ∧
  (∀ (s : State) (p : PortId) (f : Frame) (i : Nat), s.Matched p f i → s.HasBudget i → (s.route i).fields.cls = .pass →
      ∃ t, exec (.receivedFrame p f) s = .next t ∧
        (match (s.route i).fields.forward with
          | .nowhere => t = s.admitted p i
          | .otherQ2 => t = ((s.admitted p i).countRoute i (fun c => { c with forwarded := bump c.forwarded })).offer p.other .q2
              ⟨(s.route i).fields.rewrite.getD f.ident, f.data⟩
          | .otherQ0 => t = ((s.admitted p i).countRoute i (fun c => { c with forwarded := bump c.forwarded })).offer p.other .q0
              ⟨(s.route i).fields.rewrite.getD f.ident, f.data⟩))

/-- The checks of a consuming frame in their order: length, check byte, alive counter, and then the signals (R11, R12, R13). The
check byte is the plain arithmetic of R12: 255 less the sum modulo 256. -/
def Obligations.ChecksInOrder : Prop :=
  ∀ (c : Chassis) (k : StreamId) (r : StreamRecord) (e : RouteFields) (f : Frame),
    let sum := ((List.range 7).map (fun n => (dataByte f.data n).toNat)).sum + f.ident.toNat % 256
    let signals := judgeSignals c k r f.data
    (f.data.length < 8 → judge c k r e f = .rejected .signalImplausible (BitVec.ofNat 16 f.data.length)) ∧
    (8 ≤ f.data.length → e.isProtected = false → judge c k r e f = signals false) ∧
    (8 ≤ f.data.length → e.isProtected → (dataByte f.data 7).toNat ≠ 255 - sum % 256 →
      judge c k r e f = .rejected .sequenceError (BitVec.ofNat 16 (dataByte f.data 7).toNat)) ∧
    (8 ≤ f.data.length → e.isProtected → (dataByte f.data 7).toNat = 255 - sum % 256 →
      judge c k r e f = match r.lastAlive with
        | none => signals false
        | some last =>
          if (dataByte f.data 6).toNat % 16 = last.toNat then .duplicate
          else signals (decide ((dataByte f.data 6).toNat % 16 ≠ (last.toNat + 1) % 16)))

/-- The bound and step checks of each stream (R14), and the clamp of a torque request, which is never rejected for its value
(R15). Values are read at the positions of R187. -/
def Obligations.SignalChecks : Prop :=
  ∀ (c : Chassis) (k : StreamId) (r : StreamRecord) (data : List Byte) (seq : Bool),
    let high := fun n => (dataByte data n).toNat * 256 + (dataByte data (n + 1)).toNat
    let fails := fun (x : Int) (w : Window) (y : Option Int) => x < w.lower ∨ w.upper < x ∨
      ∃ m z, w.maxStep = some m ∧ y = some z ∧ (m : Int) < |x - z|
    match k with
    | .torqueRequest =>
      judgeSignals c k r data seq =
        (if (high 0 : Int) < (c.window 5).lower then
          .accepted (.torque (c.window 5).lower.toNat (decide ((c.window 5).lower.toNat ≠ high 0))) seq
        else if (c.window 5).upper < (high 0 : Int) then
          .accepted (.torque (c.window 5).upper.toNat (decide ((c.window 5).upper.toNat ≠ high 0))) seq
        else .accepted (.torque (high 0) false) seq)
    | .riderSelect =>
      judgeSignals c k r data seq =
        if 3 < (dataByte data 0).toNat then .rejected .signalImplausible (BitVec.ofNat 16 (dataByte data 0).toNat)
        else if 2 < (dataByte data 1).toNat then .rejected .signalImplausible (BitVec.ofNat 16 (dataByte data 1).toNat)
        else .accepted (.selection (dataByte data 0).toNat (dataByte data 1).toNat (decide ((dataByte data 2).toNat ≠ 0))) seq
    | .inertial =>
      let signed := fun n => if high n < 32768 then (high n : Int) else (high n : Int) - 65536
      let held := fun (g : Int × Int × Int → Int) => match r.stepReference with
        | some (.inertial a b d) => some (g (a, b, d))
        | _ => none
      (fails (signed 0) (c.window 0) (held (·.1)) →
        judgeSignals c k r data seq = .rejected .signalImplausible (BitVec.ofNat 16 (high 0))) ∧
      (¬ fails (signed 0) (c.window 0) (held (·.1)) → fails (signed 2) (c.window 1) (held (·.2.1)) →
        judgeSignals c k r data seq = .rejected .signalImplausible (BitVec.ofNat 16 (high 2))) ∧
      (¬ fails (signed 0) (c.window 0) (held (·.1)) → ¬ fails (signed 2) (c.window 1) (held (·.2.1)) →
        fails (signed 4) (c.window 2) (held (·.2.2)) →
        judgeSignals c k r data seq = .rejected .signalImplausible (BitVec.ofNat 16 (high 4))) ∧
      (¬ fails (signed 0) (c.window 0) (held (·.1)) → ¬ fails (signed 2) (c.window 1) (held (·.2.1)) →
        ¬ fails (signed 4) (c.window 2) (held (·.2.2)) →
        judgeSignals c k r data seq = .accepted (.inertial (signed 0) (signed 2) (signed 4)) seq)
    | .wheelFront =>
      let held := match r.stepReference with
        | some (.speed y) => some (y : Int)
        | _ => none
      (fails (high 0) (c.window 3) held →
        judgeSignals c k r data seq = .rejected .signalImplausible (BitVec.ofNat 16 (high 0))) ∧
      (¬ fails (high 0) (c.window 3) held → judgeSignals c k r data seq = .accepted (.speed (high 0)) seq)
    | .wheelRear =>
      let held := match r.stepReference with
        | some (.speed y) => some (y : Int)
        | _ => none
      (fails (high 0) (c.window 4) held →
        judgeSignals c k r data seq = .rejected .signalImplausible (BitVec.ofNat 16 (high 0))) ∧
      (¬ fails (high 0) (c.window 4) held → judgeSignals c k r data seq = .accepted (.speed (high 0)) seq)

/-- A rejected frame. It is counted as matched and rejected, and its stream record counts it by its state and becomes FAULTY at the
fourth in FRESH or STALE; the held values, the other records and the hold slot stand. While the record does not become FAULTY, the
occurrence of the failed check, with the entry as its source, is all that happens besides: no sample joins, nothing is dispatched, and no
copy goes to either port. Where it becomes FAULTY the occurrence is counted too, its loss condition is present, an inertial stream takes
the estimate with it and flushes the waiting samples, and Port A gets alert frames alone (R16, R20, R23). -/
def Obligations.FrameRejected : Prop :=
  ∀ (s : State) (p : PortId) (f : Frame) (i : Nat) (k : StreamId) (cls : FaultClass) (value : Half),
    s.Matched p f i → s.HasBudget i → streamOf (s.route i).fields.cls = some k →
    judge s.store.chassis k (s.stream k) (s.route i).fields f = .rejected cls value →
    let r := s.stream k
    let faulty : StreamRecord := { r with state := .faulty, lastAlive := none, stepReference := none, rejects := 0,
                                          history := [], recovery := 0, staleTimer := none, lostTimer := none }
    let after : StreamRecord := match r.state with
      | .unseen => { r with rejects := min (r.rejects + 1) 4 }
      | .fresh => if r.rejects + 1 < 4 then { r with rejects := r.rejects + 1 } else faulty
      | .stale => if r.rejects + 1 < 4 then { r with rejects := r.rejects + 1 } else faulty
      | .lost => { r with recovery := 0 }
      | .faulty => { r with recovery := 0 }
    let counted := (s.admitted p i).countRoute i (fun c => { c with rejects := bump c.rejects })
    let falls := (r.state = .fresh ∨ r.state = .stale) ∧ 4 ≤ r.rejects + 1
    ∃ t, exec (.receivedFrame p f) s = .next t ∧
      t.stream k = after ∧
      (∀ j, j ≠ k → t.stream j = s.stream j) ∧
      (∀ j, t.route j = counted.route j) ∧
      t.store = s.store ∧ t.forwarder = s.forwarder ∧ t.commands = s.commands ∧ t.now = s.now ∧
      t.portB = (s.delivered p).portB ∧ t.eval.published = s.eval.published ∧ t.lean.lean = s.lean.lean ∧
      t.governor.wanted = s.governor.wanted ∧ t.governor.applied = s.governor.applied ∧
      (¬ falls → t = (counted.setStream k after).handOff (.event cls (.route i) value)) ∧
      (falls →
        (s.delivered p).portA.AlertedTo t.portA ∧
        (k ≠ .inertial → t.lean = s.lean ∧ t.engine = s.engine) ∧
        (k = .inertial → t.lean = { s.lean with
          valid := false, tPrev := none, saturated := false, queue := []
          counts := { s.lean.counts with flushed := min (s.lean.counts.flushed + s.lean.queue.length) 65535 } }) ∧
        (k = .inertial ∨ k = .wheelFront ∨ k = .wheelRear → s.governor.state = .govern → t.governor.state = .limp) ∧
        (s.governor.state ≠ .govern → t.governor.state = s.governor.state) ∧
        (s.faults.classes.length = 12 →
          (t.faults.record cls).occurrences = bump (s.faults.record cls).occurrences ∧
          (k = .inertial → (t.faults.record .inertialLoss).cause) ∧
          (k = .wheelFront ∨ k = .wheelRear → (t.faults.record .wheelLoss).cause)))

/-- What acceptance does to a stream record (R17, R20, R21): the values, the step reference, the alive counter of a protected
entry, the stamp and the reject count, and then the effect of the record's state, with the third set mark in the last sixteen
and the eighth recovery frame. -/
def Obligations.AcceptanceRecord : Prop :=
  ∀ (r : StreamRecord) (e : RouteFields) (v : Values) (alive : Alive) (now : Stamp) (seq : Bool),
    let stored : StreamRecord := { r with
      latest := some v, stepReference := some v, stamp := now, rejects := 0,
      lastAlive := if e.isProtected then some alive else r.lastAlive }
    let history := (r.history ++ [seq]).drop (r.history.length + 1 - 16)
    let fresh := fun (h : List Bool) => { stored with
      state := .fresh, history := h, staleTimer := some ⟨now, e.staleTime⟩, lostTimer := some ⟨now, e.lostTime⟩ }
    (r.state = .unseen → r.accept e v alive now seq = { fresh [] with recovery := 0 }) ∧
    (r.state = .fresh ∨ r.state = .stale → history.count true < 3 → r.accept e v alive now seq = fresh history) ∧
    (r.state = .fresh ∨ r.state = .stale → 3 ≤ history.count true →
      r.accept e v alive now seq = { stored with
        state := .faulty, lastAlive := none, stepReference := none, history := [], recovery := 0,
        staleTimer := none, lostTimer := none }) ∧
    (r.state = .lost ∨ r.state = .faulty → seq = true → r.accept e v alive now seq = { stored with recovery := 0 }) ∧
    (r.state = .lost ∨ r.state = .faulty → seq = false → r.recovery + 1 < 8 →
      r.accept e v alive now seq = { stored with recovery := r.recovery + 1 }) ∧
    (r.state = .lost ∨ r.state = .faulty → seq = false → 8 ≤ r.recovery + 1 →
      r.accept e v alive now seq = { fresh [] with recovery := 0 })

/-- An accepted wheel frame: the record takes it, it is counted, no job is asked for, and a copy goes to the other port as the
entry's forward field says, under the rewrite identifier with its check byte recomputed when the entry is protected (R17, R24,
R25). -/
def Obligations.WheelFrameAccepted : Prop :=
  ∀ (s : State) (p : PortId) (f : Frame) (i : Nat) (k : StreamId) (v : Values) (seq : Bool),
    s.Matched p f i → s.HasBudget i → streamOf (s.route i).fields.cls = some k → k = .wheelFront ∨ k = .wheelRear →
    judge s.store.chassis k (s.stream k) (s.route i).fields f = .accepted v seq →
    let e := (s.route i).fields
    ∃ t, exec (.receivedFrame p f) s = .next t ∧
      t.stream k = (s.stream k).accept e v ((dataByte f.data 6).setWidth 4) s.now seq ∧
      (∀ j, j ≠ k → t.stream j = s.stream j) ∧
      (t.route i).fields = e ∧
      (t.route i).counts = { (s.route i).counts with
        matched := bump (s.route i).counts.matched
        accepted := bump (s.route i).counts.accepted
        sequenceErrors := if seq then bump (s.route i).counts.sequenceErrors else (s.route i).counts.sequenceErrors
        forwarded := if e.forward = .nowhere then (s.route i).counts.forwarded else bump (s.route i).counts.forwarded } ∧
      (∀ j, j ≠ i → t.route j = s.route j) ∧
      (p = .a →
        let id := e.rewrite.getD f.ident
        let data := if e.rewrite ≠ none ∧ e.isProtected then f.data.set 7 (checkByte id f.data) else f.data
        t.portB = match e.forward with
          | .nowhere => s.portB
          | .otherQ2 => s.portB.offer .q2 ⟨id, data⟩
          | .otherQ0 => s.portB.offer .q0 ⟨id, data⟩) ∧
      (p = .b → t.portB = (s.delivered .b).portB) ∧
      t.lean.queue = s.lean.queue ∧ t.engine.running = s.engine.running ∧ t.engine.ceilingPending = s.engine.ceilingPending ∧
      t.forwarder = s.forwarder ∧ t.store = s.store ∧ t.commands = s.commands ∧ t.now = s.now ∧
      t.eval.published = s.eval.published ∧ t.lean.lean = s.lean.lean

/-- An accepted inertial sample, taken while its stream is FRESH after it: it joins the tail of the queue of a busy engine, a full
queue losing its oldest sample; an idle engine with nothing pending takes it at once (R24, R31, R38, R39). -/
def Obligations.InertialSampleJoins : Prop :=
  ∀ (s : State) (p : PortId) (f : Frame) (i : Nat) (roll yaw lateral : Int) (seq : Bool),
    s.Matched p f i → s.HasBudget i → (s.route i).fields.cls = .inertial →
    judge s.store.chassis .inertial s.inertial (s.route i).fields f = .accepted (.inertial roll yaw lateral) seq →
    (s.inertial.accept (s.route i).fields (.inertial roll yaw lateral) ((dataByte f.data 6).setWidth 4) s.now seq).state = .fresh →
    let x : Sample := ⟨roll, yaw, lateral, s.now⟩
    ∃ t, exec (.receivedFrame p f) s = .next t ∧
      t.inertial.state = .fresh ∧ t.inertial.latest = some (.inertial roll yaw lateral) ∧
      t.lean.counts.queued = bump s.lean.counts.queued ∧
      t.forwarder = s.forwarder ∧ t.store = s.store ∧ t.eval = s.eval ∧ t.lean.lean = s.lean.lean ∧
      (s.engine.running ≠ none → s.lean.queue.length < 4 →
        t.lean.queue = s.lean.queue ++ [x] ∧ t.lean.counts.overrun = s.lean.counts.overrun ∧ t.engine = s.engine) ∧
      (s.engine.running ≠ none → 4 ≤ s.lean.queue.length →
        t.lean.queue = s.lean.queue.tail ++ [x] ∧ t.lean.counts.overrun = bump s.lean.counts.overrun ∧ t.engine = s.engine) ∧
      (s.engine.running = none → s.engine.ceilingPending = false → s.lean.queue = [] →
        t.lean.queue = [] ∧ ∃ n, t.engine.running = some ⟨.lean n, false⟩ ∧ n.sample = x ∧ n.lean = s.lean.lean ∧
          n.valid = s.lean.valid ∧ n.tPrev = s.lean.tPrev)

/-- An accepted torque request enters the hold slot whatever the state of its stream: the record of R84 with its hold timer at 0,
superseding a held one, and a CEILING job pending or running for it (R24, R30, R84 to R87). -/
def Obligations.TorqueRequestEntersSlot : Prop :=
  ∀ (s : State) (p : PortId) (f : Frame) (i : Nat) (torque : Nat) (clamped seq : Bool),
    s.Matched p f i → s.HasBudget i → (s.route i).fields.cls = .torqueRequest →
    judge s.store.chassis .torqueRequest s.torqueRequest (s.route i).fields f = .accepted (.torque torque clamped) seq →
    ∃ t, exec (.receivedFrame p f) s = .next t ∧
      t.forwarder = { s.forwarder with
        slot := some ⟨torque, clamped, s.now, i, (s.route i).fields.holdLimit, (s.route i).fields.rewrite.getD f.ident⟩
        holdTimer := some 0
        counts := { s.forwarder.counts with
          entered := bump s.forwarder.counts.entered
          superseded := if s.forwarder.slot = none then s.forwarder.counts.superseded
            else bump s.forwarder.counts.superseded } } ∧
      (t.engine.ceilingPending ∨ t.engine.ceilingRunning) ∧
      ((s.engine.ceilingPending ∨ s.engine.ceilingRunning) → t.engine = s.engine) ∧
      (s.engine.running = none → s.engine.ceilingPending = false →
        ∃ n, t.engine.running = some ⟨.ceiling n, false⟩ ∧ n.request = some (torque, clamped)) ∧
      t.torqueRequest = s.torqueRequest.accept (s.route i).fields (.torque torque clamped) ((dataByte f.data 6).setWidth 4) s.now seq ∧
      (t.route i).counts.clamped = (if clamped then bump (s.route i).counts.clamped else (s.route i).counts.clamped) ∧
      t.portB = (s.delivered p).portB ∧ t.eval = s.eval ∧ t.lean = s.lean ∧ t.store = s.store ∧
      t.governor.state = s.governor.state

/-- An accepted rider selection frame writes the wanted selection while its stream is FRESH after it, counting a change, and
leaves it otherwise; it never touches the state, the applied selection or the applied page (R24, R103). -/
def Obligations.RiderSelectionWanted : Prop :=
  ∀ (s : State) (p : PortId) (f : Frame) (i mode load : Nat) (traction seq : Bool),
    s.Matched p f i → s.HasBudget i → (s.route i).fields.cls = .riderSelect →
    judge s.store.chassis .riderSelect s.riderSelect (s.route i).fields f = .accepted (.selection mode load traction) seq →
    ∃ t, exec (.receivedFrame p f) s = .next t ∧
      t.riderSelect = s.riderSelect.accept (s.route i).fields (.selection mode load traction)
        ((dataByte f.data 6).setWidth 4) s.now seq ∧
      (t.riderSelect.state = .fresh →
        t.governor = { s.governor with
          wanted := ⟨mode, load, traction⟩
          counts := { s.governor.counts with
            wantedChange := if s.governor.wanted = ⟨mode, load, traction⟩ then s.governor.counts.wantedChange
              else bump s.governor.counts.wantedChange } }) ∧
      (t.riderSelect.state ≠ .fresh → t.governor = s.governor) ∧
      t.forwarder = s.forwarder ∧ t.engine = s.engine ∧ t.eval = s.eval ∧ t.lean = s.lean ∧ t.store = s.store

/-- Every entry's window is closed at a due policing expiry: streaks, counts and marks. The expiries fall 100 counts apart, however late one
is taken (log 30). An ENABLED entry whose window has dropped frames for the third time in a row floods: a STREAM_FLOOD occurrence with the
entry as its source and its over-budget count as its value, and a consuming stream becomes FAULTY from FRESH or STALE, loses its recovery
count in LOST and FAULTY, and is left in UNSEEN. Before the expiry is due nothing happens (R9, R20; the guard is log 3). -/
def Obligations.PolicingWindowExpires : Prop :=
  ∀ s : State, ∃ t, exec .policingWindowExpiry s = .next t ∧
    let floods := fun (i : Nat) => (s.route i).state = .enabled ∧ (s.route i).droppedMark ∧ 2 ≤ (s.route i).floodStreak
    let closed : State := { s with routes := t.routes, policingStart := t.policingStart }
    let raised := fun (i : Nat) =>
      HandOff.event .streamFlood (.route i) (BitVec.ofNat 16 (s.route i).counts.overBudget)
    let number := s.routes.countP (fun e => decide (e.state = .enabled ∧ e.droppedMark ∧ 2 ≤ e.floodStreak))
    (ageOf s.now s.policingStart < 100 → t = s) ∧
    (100 ≤ ageOf s.now s.policingStart →
      t.policingStart = s.policingStart + 100 ∧
      (∀ i, t.route i = { s.route i with
        floodStreak := if (s.route i).droppedMark then min ((s.route i).floodStreak + 1) 3 else 0
        windowCount := 0
        droppedMark := false }) ∧
      (∀ k, (∀ i, floods i → streamOf (s.route i).fields.cls ≠ some k) → t.stream k = s.stream k) ∧
      (∀ i k, floods i → streamOf (s.route i).fields.cls = some k →
        t.stream k = match (s.stream k).state with
          | .unseen => s.stream k
          | .fresh => { s.stream k with state := .faulty, lastAlive := none, stepReference := none, rejects := 0,
                                        history := [], recovery := 0, staleTimer := none, lostTimer := none }
          | .stale => { s.stream k with state := .faulty, lastAlive := none, stepReference := none, rejects := 0,
                                        history := [], recovery := 0, staleTimer := none, lostTimer := none }
          | .lost => { s.stream k with recovery := 0 }
          | .faulty => { s.stream k with recovery := 0 }) ∧
      ((∀ i, ¬ floods i) → t = closed) ∧
      (∀ i, floods i → (∀ j, floods j → j = i) →
        (streamOf (s.route i).fields.cls = none → t = closed.handOff (raised i)) ∧
        (∀ k, streamOf (s.route i).fields.cls = some k → (s.stream k).state.trusted = false →
          t = (closed.setStream k (t.stream k)).handOff (raised i))) ∧
      (s.faults.classes.length = 12 → (t.faults.record .streamFlood).occurrences =
        if number = 0 then (s.faults.record .streamFlood).occurrences
        else min ((s.faults.record .streamFlood).occurrences + number) 65535) ∧
      s.portA.AlertedTo t.portA ∧
      t.forwarder = s.forwarder ∧ t.store = s.store ∧ t.commands = s.commands ∧ t.portB = s.portB ∧
      t.eval.published = s.eval.published ∧ t.lean.lean = s.lean.lean)

/-- A stream ages. FRESH with its stale timer due, it becomes STALE: its values, its lost timer and its history stand (R18). STALE with
its lost timer due, it becomes LOST, its values and stamp kept; the inertial stream takes the estimate with it (R19, R23, R50). A governing
stream takes GOVERN to LIMP with X 0 at once (R69, R77, R112). Outside GOVERN, during a job about to commit GOVERN, it withdraws the
decision: the withdrawn mark and the fold mark set, X 0, one more fall, and the state and GOVERN_DEGRADED as they stand (R111); with no such
job it changes neither the state nor a decision (R113), and with the fold mark set already it does nothing more (log 16). An expiry that is
not due does nothing (log 3). -/
def Obligations.StreamAges : Prop :=
  ∀ (s : State) (k : StreamId),
    (∀ tm, (s.stream k).state = .fresh → (s.stream k).staleTimer = some tm → tm.setting ≤ ageOf s.now tm.start →
      exec (.staleExpiry k) s = .next (s.setStream k { s.stream k with state := .stale, staleTimer := none })) ∧
    ((s.stream k).state ≠ .fresh ∨ (∀ tm, (s.stream k).staleTimer = some tm → ageOf s.now tm.start < tm.setting) →
      exec (.staleExpiry k) s = .next s) ∧
    ((s.stream k).state ≠ .stale ∨ (∀ tm, (s.stream k).lostTimer = some tm → ageOf s.now tm.start < tm.setting) →
      exec (.lostExpiry k) s = .next s) ∧
    (∀ tm, (s.stream k).state = .stale → (s.stream k).lostTimer = some tm → tm.setting ≤ ageOf s.now tm.start →
      ∃ t, exec (.lostExpiry k) s = .next t ∧
      t.stream k = { s.stream k with state := .lost, lastAlive := none, stepReference := none, rejects := 0, history := [],
                                     recovery := 0, staleTimer := none, lostTimer := none } ∧
      (∀ j, j ≠ k → t.stream j = s.stream j) ∧
      (k = .inertial ∨ k = .wheelFront ∨ k = .wheelRear → s.governor.state = .govern →
        t.governor = { s.governor with
          state := .limp
          counts := { s.governor.counts with
            falls := bump s.governor.counts.falls, limpEntries := bump s.governor.counts.limpEntries } } ∧
        t.eval = { s.eval with cut := 0, fold := s.eval.fold || s.engine.ceilingRunning }) ∧
      (k = .inertial ∨ k = .wheelFront ∨ k = .wheelRear → s.governor.state ≠ .govern →
        let commits := s.engine.ceilingRunning ∧ ∃ d, s.governor.committing = some d ∧ d.state = .govern
        (commits → s.eval.fold = false →
          t.governor = { s.governor with
            withdrawn := true, counts := { s.governor.counts with falls := bump s.governor.counts.falls } } ∧
          t.eval = { s.eval with cut := 0, fold := true } ∧
          (t.faults.record .governDegraded).cause = (s.faults.record .governDegraded).cause) ∧
        (¬ commits ∨ s.eval.fold → t.governor = s.governor ∧ t.eval = s.eval)) ∧
      (k = .torqueRequest ∨ k = .riderSelect → t.governor = s.governor ∧ t.eval = s.eval ∧ t.lean = s.lean ∧ t.faults = s.faults) ∧
      (k = .inertial → t.lean = { s.lean with
        valid := false, tPrev := none, saturated := false, queue := []
        counts := { s.lean.counts with flushed := min (s.lean.counts.flushed + s.lean.queue.length) 65535 } } ∧
        ∀ n v, s.engine.running = some ⟨.lean n, v⟩ → t.engine.running = some ⟨.lean n, true⟩) ∧
      (k ≠ .inertial → t.lean = s.lean ∧ t.engine = s.engine) ∧
      t.routes = s.routes ∧ t.store = s.store ∧ t.forwarder = s.forwarder ∧ t.portB = s.portB ∧ t.commands = s.commands)

/-! ## The evaluation engine (02) -/

/-- The engine's choice: an IDLE engine takes CEILING before LEAN before SEAL_STEP, clears the flag or removes the oldest sample,
takes the snapshot, and counts the start; with nothing pending it stays IDLE, and a running job is not disturbed (R33, R35). -/
def Obligations.EngineChoice : Prop :=
  ∀ s : State, ∃ t, exec .jobStart s = .next t ∧
    (s.engine.running ≠ none → t = s) ∧
    (s.engine.running = none → s.engine.ceilingPending →
      t = { s with engine := t.engine, governor := t.governor } ∧
      t.engine.ceilingPending = false ∧ t.engine.sealPending = s.engine.sealPending ∧
      t.engine.counts = { s.engine.counts with startedCeiling := bump s.engine.counts.startedCeiling } ∧
      t.engine.running = some ⟨.ceiling
        { lean := s.lean.lean, valid := s.lean.valid, front := s.wheelFront.view, rear := s.wheelRear.view,
          inertial := s.inertial.state, cut := s.eval.cut, published := s.eval.published, state := s.governor.state,
          wanted := s.governor.wanted, applied := s.governor.applied, appliedPage := s.governor.appliedPage,
          request := s.forwarder.slot.map (fun h => (h.request, h.clamped)),
          frontRadius := s.store.chassis.frontRadius, rearRadius := s.store.chassis.rearRadius }, false⟩) ∧
    (∀ x rest, s.engine.running = none → s.engine.ceilingPending = false → s.lean.queue = x :: rest →
      t = { s with engine := t.engine, lean := { s.lean with queue := rest } } ∧
      t.engine = { s.engine with
        running := t.engine.running
        counts := { s.engine.counts with startedLean := bump s.engine.counts.startedLean } } ∧
      ∃ n, t.engine.running = some ⟨.lean n, false⟩ ∧ n.sample = x ∧ n.lean = s.lean.lean ∧ n.valid = s.lean.valid ∧
        n.tPrev = s.lean.tPrev ∧ n.front = s.wheelFront.view ∧ n.rear = s.wheelRear.view ∧
        n.normalGain = s.appliedPage.normalGain ∧ n.slideGain = s.appliedPage.slideGain ∧
        n.slideThreshold = s.appliedPage.slideThreshold ∧
        ∀ i, s.enabledOf .inertial = some i → n.nominalPeriod = (s.route i).fields.nominalPeriod) ∧
    (∀ r, s.engine.running = none → s.engine.ceilingPending = false → s.lean.queue = [] → s.engine.sealPending →
      s.store.sealRecord = some r →
      t = { s with engine := t.engine } ∧
      t.engine = { s.engine with
        sealPending := false
        running := t.engine.running
        counts := { s.engine.counts with startedSeal := bump s.engine.counts.startedSeal } } ∧
      ∃ n, t.engine.running = some ⟨.sealStep n, false⟩ ∧ n.page = r.page ∧ n.step = r.step ∧
        n.hardCeiling = (s.store.page r.page).hardCeiling ∧
        n.entries = match r.step with
          | 1 => (s.store.page r.page).ceiling
          | 2 => (s.store.page r.page).slipTarget
          | 3 => (s.store.page r.page).brake
          | _ => (s.store.page r.page).scalars) ∧
    (s.engine.running = none → s.engine.ceilingPending = false → s.lean.queue = [] → s.engine.sealPending = false → t = s)

/-- The end of a job. A void completion writes nothing of its job: no estimate, report, ceiling, state, page or torque command; it is
counted, and a void CEILING completion clears the fold mark (R36, R77). After every completion the engine has left the job, with its other
flags and the sample queue as they stood but for the next step of a seal, and chooses again by R33 (R34). -/
def Obligations.VoidCompletionWritesNothing : Prop :=
  (∀ (s : State) (j : Job) (c : Instr),
    s.engine.running = some ⟨j, true⟩ →
    (c = .leanCompletion ∧ (∃ n, j = .lean n)) ∨ (c = .ceilingCompletion ∧ ∃ n, j = .ceiling n) →
    ∃ t, exec c s = .next t ∧
      t.engine.counts.voids = bump s.engine.counts.voids ∧
      t = { s with engine := t.engine, lean := { s.lean with queue := t.lean.queue }, eval := { s.eval with fold := t.eval.fold },
                   governor := { s.governor with committing := t.governor.committing, withdrawn := t.governor.withdrawn,
                                                 counts := t.governor.counts } } ∧
      t.governor.counts = { s.governor.counts with safePoints := t.governor.counts.safePoints } ∧
      exec .jobStart { s with
        engine := { s.engine with
          running := none, counts := { s.engine.counts with voids := bump s.engine.counts.voids } }
        eval := { s.eval with fold := s.eval.fold && decide (c ≠ .ceilingCompletion) } } = .next t) ∧
  (∀ (s : State) (j : Job) (c : Instr),
    s.engine.running = some ⟨j, false⟩ →
    (c = .leanCompletion ∧ ∃ n, j = .lean n) ∨ (c = .ceilingCompletion ∧ ∃ n, j = .ceiling n) ∨
      (c = .sealStepCompletion ∧ (∃ n, j = .sealStep n) ∧ s.store.sealRecord ≠ none) →
    ∃ u t, exec c s = .next t ∧ exec .jobStart u = .next t ∧
      u.engine = { s.engine with running := none, sealPending := u.engine.sealPending } ∧
      (c ≠ .sealStepCompletion → u.engine.sealPending = s.engine.sealPending) ∧
      u.lean.queue = s.lean.queue)

/-! ## Lean estimation (03) -/

/-- The arithmetic of a LEAN job (R41 to R48): interval, prediction, reference speed, centripetal index, reference lean, gain,
blend and clamp, every division rounding toward zero. -/
def Obligations.LeanJobArithmetic : Prop :=
  ∀ n : LeanSnapshot,
    let dt : Int := match n.tPrev with
      | some t => max 5 (min 40 ((n.sample.stamp - t).toNat : Int))
      | none => n.nominalPeriod
    let predicted := n.lean + (n.sample.roll * dt).tdiv 100
    let speed : Option Nat :=
      if n.front.state = .fresh ∨ n.front.state = .stale then n.front.speed.or (if n.rear.state = .fresh ∨ n.rear.state = .stale then n.rear.speed else none)
      else if n.rear.state = .fresh ∨ n.rear.state = .stale then n.rear.speed
      else none
    (∀ v, speed = some v →
      let c : Int := max (-300) (min 300 ((n.sample.yaw * v).tdiv 2023))
      let i := c.natAbs / 5
      let size : Int := if i = 60 then leanTable.getD 60 0
        else leanTable.getD i 0 + (((leanTable.getD (i + 1) 0 - leanTable.getD i 0 : Int)) * (c.natAbs % 5 : Nat)).tdiv 5
      let reference : Int := if v < 100 then 0 else if c < 0 then -size else if 0 < c then size else 0
      let gain : Int := if v < 100 ∨ n.slideThreshold < n.sample.lateral.natAbs then n.slideGain else n.normalGain
      let blend : Int := if n.valid then predicted + ((reference - predicted) * gain).tdiv 256 else reference
      n.result = ⟨max (-6500) (min 6500 blend), true, decide (blend < -6500 ∨ 6500 < blend), false,
        decide (v < 100 ∨ n.slideThreshold < n.sample.lateral.natAbs), !n.valid⟩) ∧
    (speed = none →
      let blend : Int := if n.valid then predicted else 0
      n.result = ⟨max (-6500) (min 6500 blend), n.valid, decide (blend < -6500 ∨ 6500 < blend), true, true, false⟩)

/-- A LEAN completion. It writes L, lean-valid, the saturation flag, t_prev and its counts, and touches no evaluation result, no
governor state, no page, no stream and no held request (R49; that the slide-gain count rises at a full take too is log 31). A lean report falls due when the decimation count reaches N; it carries the
blocks' values as they stand under identifier 0x0D0, packed in 52 bits with the alive counter in the low nibble of byte 6 and the check
byte in byte 7; a copy goes to Port B's Q2 and, with the switch on, to Port A's Q2 (R55 to R58, R188). -/
def Obligations.LeanCompletion : Prop :=
  (∀ (s : State) (n : LeanSnapshot), s.engine.running = some ⟨.lean n, false⟩ →
      ∃ t, exec .leanCompletion s = .next t ∧
        t.lean.lean = n.result.lean ∧ t.lean.valid = n.result.valid ∧ t.lean.saturated = n.result.saturated ∧
        t.lean.tPrev = some n.sample.stamp ∧
        t.lean.counts.referenceUnavailable = (if n.result.referenceUnavailable then bump s.lean.counts.referenceUnavailable
          else s.lean.counts.referenceUnavailable) ∧
        t.lean.counts.slideGain = (if n.result.slide then bump s.lean.counts.slideGain else s.lean.counts.slideGain) ∧
        t.lean.counts.fullTake = (if n.result.fullTake then bump s.lean.counts.fullTake else s.lean.counts.fullTake) ∧
        t.eval = s.eval ∧ t.governor.state = s.governor.state ∧ t.governor.applied = s.governor.applied ∧
        t.governor.appliedPage = s.governor.appliedPage ∧ t.forwarder = s.forwarder ∧ t.store = s.store ∧ t.routes = s.routes ∧
        (∀ k, t.stream k = s.stream k) ∧ t.commands = s.commands ∧ t.now = s.now) ∧
  (∀ (s : State) (n : LeanSnapshot), s.engine.running = some ⟨.lean n, false⟩ →
      ∃ t, exec .leanCompletion s = .next t ∧
        (let told := ({ s with lean := t.lean } : State).handOff
          (if t.lean.saturated then .present .leanSaturation (s.routeSource .inertial) (BitVec.ofInt 16 t.lean.lean)
            else .absent .leanSaturation)
         t.faults = told.faults ∧
         (s.lean.decimation + 1 < s.store.chassis.decimation →
          t.lean.decimation = s.lean.decimation + 1 ∧ t.lean.reportAlive = s.lean.reportAlive ∧ t.portB = s.portB ∧
          t.portA = told.portA ∧ t.lean.counts.reportCopies = s.lean.counts.reportCopies) ∧
         (s.store.chassis.decimation ≤ s.lean.decimation + 1 →
          t.lean.decimation = 0 ∧ t.lean.reportAlive = s.lean.reportAlive + 1 ∧
          t.lean.counts.reportCopies =
            min (s.lean.counts.reportCopies + if s.store.chassis.reportToA then 2 else 1) 65535 ∧
          ∃ f : Frame, t.portB = s.portB.offer .q2 f ∧
            t.portA = (if s.store.chassis.reportToA then told.portA.offer .q2 f else told.portA) ∧
            f.ident = 0x0D0 ∧ f.data.length = 8 ∧
            (let w : BitVec 64 := (f.data.foldl (fun (acc : Nat) b => acc * 256 + b.toNat) 0 : Nat)
             (w.extractLsb' 53 11).toInt = t.lean.lean.tdiv 10 ∧
             w.extractLsb' 42 11 = BitVec.ofInt 11 s.eval.slip ∧
             w.extractLsb' 33 9 = BitVec.ofNat 9 s.eval.published ∧
             w.extractLsb' 25 8 = BitVec.ofNat 8 s.eval.cut ∧
             w.extractLsb' 17 8 = BitVec.ofNat 8 (readRow s.appliedPage.brake 12 (if t.lean.valid then t.lean.lean.natAbs else 0)) ∧
             (w.extractLsb' 15 2).toNat = (match s.governor.state with
               | .start => 0
               | .govern => 1
               | .limp => 2
               | .bypass => 3) ∧
             w.getLsbD 14 = t.lean.valid ∧ w.getLsbD 13 = s.eval.slipValid ∧ w.getLsbD 12 = t.faults.summary ∧
             w.extractLsb' 8 4 = s.lean.reportAlive ∧
             dataByte f.data 7 = checkByte 0x0D0 f.data))))

/-- A row read at a lean in 0.01 degree lies between the two entries it interpolates, and beyond the last breakpoint it is the
last entry (R53, R62). -/
def Obligations.RowReadBetweenNeighbours : Prop :=
  ∀ (row : List Nat) (last lean : Nat),
    (last ≤ lean / 500 → readRow row last lean = row.getD last 0) ∧
    (lean / 500 < last →
      min (row.getD (lean / 500) 0) (row.getD (lean / 500 + 1) 0) ≤ readRow row last lean ∧
      readRow row last lean ≤ max (row.getD (lean / 500) 0) (row.getD (lean / 500 + 1) 0) ∧
      (lean % 500 = 0 → readRow row last lean = row.getD (lean / 500) 0) ∧
      (readRow row last lean : Int) =
        row.getD (lean / 500) 0 +
          (((row.getD (lean / 500 + 1) 0 : Int) - row.getD (lean / 500) 0) * (lean % 500 : Nat)).tdiv 500)

/-! ## Slip, cut and ceiling (04) -/

/-- The arithmetic of an evaluation. Slip is valid exactly when both wheel streams are FRESH or STALE and the corrected front speed is
50 or more, and is then the excess of the corrected rear speed in 0.1 %, within 1000 either way (R63 to R65). The new cut grows while
slip is above its target, decays otherwise, and is 0 outside GOVERN; the ceiling follows state E and page G (R66 to R72). -/
def Obligations.CeilingArithmetic : Prop :=
  ∀ (n : CeilingSnapshot) (g : Page),
    let lean := if n.valid then n.lean.natAbs else 0
    let target := readRow g.slipTarget 12 lean
    let leanCeiling := readRow g.ceiling 12 lean
    let limp := if n.valid then min leanCeiling g.limpCeiling else g.limpCeiling
    (∀ f r, n.front.speed = some f → n.rear.speed = some r →
      n.front.state = .fresh ∨ n.front.state = .stale → n.rear.state = .fresh ∨ n.rear.state = .stale →
      let front := f * readRow n.frontRadius 13 lean / 4096
      let rear := r * readRow n.rearRadius 13 lean / 4096
      (front < 50 → n.slip = none) ∧
      (50 ≤ front → n.slip = some (max (-1000) (min 1000 ((((rear : Int) - front) * 1000).tdiv front))))) ∧
    (n.front.state.trusted = false ∨ n.rear.state.trusted = false → n.slip = none) ∧
    (∀ x : Int, n.slip = some x → (target : Int) < x →
      (n.newCut .govern g : Int) = min 250 (n.cut + ((x - target) * g.cutGrowth).tdiv 16)) ∧
    (∀ x : Int, n.slip = some x → x ≤ target → n.newCut .govern g = n.cut - g.cutDecay) ∧
    (n.slip = none → n.newCut .govern g = n.cut - g.cutDecay) ∧
    n.newCut .start g = 0 ∧ n.newCut .limp g = 0 ∧ n.newCut .bypass g = 0 ∧
    n.ceiling .govern g = leanCeiling - n.newCut .govern g ∧
    n.ceiling .start g = limp ∧ n.ceiling .limp g = limp ∧ n.ceiling .bypass g = g.hardCeiling

/-- A CEILING completion. The evaluator writes C_pub within the rise limit, X, S and its validity and the two marks, by the fold rule
when the fold mark is set (R73, R74, R78). The forwarder then answers the request held, from the C_pub and state just written: one torque
command to Port B's Q3, the slot empty, the timer stopped, the alive counter advanced; with the slot empty it builds nothing (R75, R89). -/
def Obligations.CeilingCompletion : Prop :=
  (∀ (s : State) (n : CeilingSnapshot) (d : Decision),
      s.engine.running = some ⟨.ceiling n, false⟩ → s.governor.committing = some d →
      let g := s.store.page d.page
      let c := n.ceiling d.state g
      let risen := n.published + g.riseMax
      ∃ t, exec .ceilingCompletion s = .next t ∧
        t.eval.slip = (match n.slip with
          | some x => x
          | none => 0) ∧
        t.eval.slipValid = n.slip.isSome ∧ t.eval.fold = false ∧
        (t.eval.pageChanged ↔ d.page ≠ n.appliedPage) ∧
        t.eval.counts.evaluations = bump s.eval.counts.evaluations ∧
        (s.eval.fold = false →
          t.eval.published = min c risen ∧ t.eval.cut = n.newCut d.state g ∧ (t.eval.riseLimited ↔ risen < c)) ∧
        (s.eval.fold →
          t.eval.published = min (min c g.limpCeiling) risen ∧ t.eval.cut = s.eval.cut ∧
          (t.eval.riseLimited ↔ risen < c ∧ risen < g.limpCeiling) ∧
          t.eval.counts.folded = bump s.eval.counts.folded) ∧
        t.lean.lean = s.lean.lean ∧ t.store = s.store ∧ t.routes = s.routes ∧ (∀ k, t.stream k = s.stream k) ∧ t.commands = s.commands) ∧
  (∀ (s : State) (n : CeilingSnapshot), s.engine.running = some ⟨.ceiling n, false⟩ →
      ∃ t, exec .ceilingCompletion s = .next t ∧
        (s.forwarder.slot = none → t.forwarder = s.forwarder ∧ t.portB = s.portB) ∧
        (∀ h, s.forwarder.slot = some h → ∃ u : State,
          u.eval = t.eval ∧ u.governor.state = t.governor.state ∧ u.forwarder.alive = s.forwarder.alive ∧
          t.portB = s.portB.offer .q3 (u.torqueCommand h false) ∧
          t.forwarder = { s.forwarder with
            slot := none
            holdTimer := none
            alive := s.forwarder.alive + 1
            counts := { s.forwarder.counts with
              completionBuilt := bump s.forwarder.counts.completionBuilt
              intervened := if t.eval.published < h.request then bump s.forwarder.counts.intervened
                else s.forwarder.counts.intervened
              monitor := if s.forwarder.monitorOn then bump s.forwarder.counts.monitor else s.forwarder.counts.monitor } }))

/-! ## Governor control (06) -/

/-- The decision formed at a CEILING start: at the safe point the wanted selection, its page and the state of the transition
table; otherwise the state, page and selection that stand (R107 to R109). -/
def Obligations.DecisionFormed : Prop :=
  ∀ s : State, s.engine.running = none → s.engine.ceilingPending →
    let w := s.governor.wanted
    let safe := ((s.lean.lean.natAbs ≤ 1000) ∨ s.lean.valid = false) ∧ ∃ h, s.forwarder.slot = some h ∧ h.request ≤ 20
    let ready := s.inertial.state = .fresh ∧ s.wheelFront.state = .fresh ∧ s.wheelRear.state = .fresh ∧ s.lean.valid
    ∃ t, exec .jobStart s = .next t ∧ t.governor.withdrawn = false ∧ t.governor.state = s.governor.state ∧
      (safe →
        t.governor.counts.safePoints = bump s.governor.counts.safePoints ∧
        ∃ e, t.governor.committing = some ⟨e, s.store.pageMap.getD (w.mode * 3 + w.load) 0, w⟩ ∧
          (w.traction = false → e = .bypass) ∧
          (w.traction → ready → e = .govern) ∧
          (w.traction → ¬ ready → e = match s.governor.state with
            | .start => .start
            | .govern => .govern
            | .limp => .limp
            | .bypass => .limp)) ∧
      (¬ safe →
        t.governor.counts.safePoints = s.governor.counts.safePoints ∧
        t.governor.committing = some ⟨s.governor.state, s.governor.appliedPage, s.governor.applied⟩)

/-- The commit at a CEILING completion: the applied selection and page, the state (LIMP where the decision was withdrawn or the
fold mark was set), the START timer, and the counts (R110, R111, R120). A change from START stops the START timer, an expired one too: log
32. START_TIMER_EXPIRY: in START with the timer at 3000 ms or more the timer becomes expired and GOVERN_DEGRADED present with value 1;
otherwise nothing happens (R116, R117, R157; the guard is log 3). -/
def Obligations.DecisionCommitted : Prop :=
  (∀ (s : State) (n : CeilingSnapshot) (d : Decision),
    s.engine.running = some ⟨.ceiling n, false⟩ → s.governor.committing = some d → s.engine.ceilingPending = false →
    let e := if s.governor.withdrawn ∨ s.eval.fold then GovState.limp else d.state
    ∃ t, exec .ceilingCompletion s = .next t ∧
      t.governor = { s.governor with
        state := e
        applied := d.selection
        appliedPage := d.page
        committing := none
        withdrawn := false
        startTimer := if s.governor.state = .start ∧ e ≠ .start then .stopped else s.governor.startTimer
        counts := { s.governor.counts with
          startEntries := if e = .start ∧ s.governor.state ≠ .start then bump s.governor.counts.startEntries
            else s.governor.counts.startEntries
          governEntries := if e = .govern ∧ s.governor.state ≠ .govern then bump s.governor.counts.governEntries
            else s.governor.counts.governEntries
          limpEntries := if e = .limp ∧ s.governor.state ≠ .limp then bump s.governor.counts.limpEntries
            else s.governor.counts.limpEntries
          bypassEntries := if e = .bypass ∧ s.governor.state ≠ .bypass then bump s.governor.counts.bypassEntries
            else s.governor.counts.bypassEntries
          selectionApplied := if d.selection ≠ s.governor.applied ∨ d.page ≠ s.governor.appliedPage then
              bump s.governor.counts.selectionApplied
            else s.governor.counts.selectionApplied } }) ∧
  (∀ s : State,
    (∀ start, s.governor.state = .start → s.governor.startTimer = .running start → 3000 ≤ ageOf s.now start →
      exec .startTimerExpiry s = .next
        (({ s with governor := { s.governor with startTimer := .expired } } : State).handOff
          (.present .governDegraded .absent 1))) ∧
    (s.governor.state ≠ .start ∨ s.governor.startTimer = .stopped ∨ s.governor.startTimer = .expired ∨
        (∃ start, s.governor.startTimer = .running start ∧ ageOf s.now start < 3000) →
      exec .startTimerExpiry s = .next s))

/-- GOVERN is entered at a CEILING completion alone: no other command takes a part that is not in GOVERN there (R102, 06 section
6.1). -/
def Obligations.GovernEnteredAtCompletion : Prop :=
  ∀ (c : Instr) (s t : State), c ≠ .ceilingCompletion → exec c s = .next t → t.governor.state = .govern →
    s.governor.state = .govern

/-! ## Torque forwarding (05) -/

/-- The two frames that answer a held request. The torque command: its identifier, the smaller of the request and C_pub, the four flags,
the alive counter and the check byte (R93 to R95, R188). The monitor frame, identifier 0x7A0: packed in order T_req', T_out, the lean,
the cut, the seven result flags, the command's alive value and the check byte (R98, R188). -/
def Obligations.AnswerFrames : Prop :=
  ∀ (s : State) (h : HeldRequest) (late : Bool),
    let out := min h.request s.eval.published
    let f := s.torqueCommand h late
    let g := s.monitorFrame h late
    let w : BitVec 64 := (g.data.foldl (fun (acc : Nat) b => acc * 256 + b.toNat) 0 : Nat)
    f.ident = h.outbound ∧ f.data.length = 8 ∧
    unsignedAt f.data 0 = out % 65536 ∧
    ((dataByte f.data 2).getLsbD 0 ↔ out < h.request) ∧
    ((dataByte f.data 2).getLsbD 1 ↔ 0 < s.eval.cut) ∧
    ((dataByte f.data 2).getLsbD 2 = late) ∧
    ((dataByte f.data 2).getLsbD 3 ↔ s.governor.state ≠ .govern) ∧
    (dataByte f.data 2).toNat < 16 ∧
    dataByte f.data 3 = 0 ∧ dataByte f.data 4 = 0 ∧ dataByte f.data 5 = 0 ∧
    (dataByte f.data 6).toNat = s.forwarder.alive.toNat ∧
    dataByte f.data 7 = checkByte h.outbound f.data ∧
    g.ident = 0x7A0 ∧ g.data.length = 8 ∧
    w.extractLsb' 55 9 = BitVec.ofNat 9 h.request ∧
    w.extractLsb' 46 9 = BitVec.ofNat 9 out ∧
    w.extractLsb' 35 11 = BitVec.ofInt 11 (s.lean.lean.tdiv 10) ∧
    w.extractLsb' 27 8 = BitVec.ofNat 8 s.eval.cut ∧
    (w.getLsbD 26 ↔ out < h.request) ∧ w.getLsbD 25 = h.clamped ∧
    (w.getLsbD 24 ↔ 0 < s.eval.cut) ∧ w.getLsbD 23 = s.eval.riseLimited ∧ w.getLsbD 22 = late ∧
    (w.getLsbD 21 ↔ s.governor.state ≠ .govern) ∧ w.getLsbD 20 = s.eval.pageChanged ∧
    w.extractLsb' 12 8 = 0 ∧ w.extractLsb' 8 4 = s.forwarder.alive ∧
    dataByte g.data 7 = checkByte 0x7A0 g.data

/-- HOLD_EXPIRY, once the hold timer has reached the hold limit, answers the held request late from C_pub as it stands: the torque command
to Port B's Q3, the monitor frame to Port A's Q0 while the monitor is on, the slot empty, and a HOLD_EXPIRY occurrence with the route and
torque of the request; the job is not disturbed (R85, R90). Before the limit, and so after an arrival that has superseded the held request
(R92), and with the slot empty or the timer stopped, nothing happens (the guard is log 3; how the age advances is log 5). -/
def Obligations.HoldExpiryAnswersLate : Prop :=
  ∀ s : State,
    (∀ h age, s.forwarder.slot = some h → s.forwarder.holdTimer = some age → h.holdLimit ≤ age →
      ∃ u : State, exec .holdExpiry s = .next (u.handOff (.event .holdExpiry (.route h.route) (BitVec.ofNat 16 h.request))) ∧
        u.portB = s.portB.offer .q3 (s.torqueCommand h true) ∧
        u.portA = (if s.forwarder.monitorOn then s.portA.offer .q0 (s.monitorFrame h true) else s.portA) ∧
        u = { s with portA := u.portA, portB := u.portB, forwarder := { s.forwarder with
          slot := none
          holdTimer := none
          alive := s.forwarder.alive + 1
          counts := { s.forwarder.counts with
            expiryBuilt := bump s.forwarder.counts.expiryBuilt
            intervened := if s.eval.published < h.request then bump s.forwarder.counts.intervened
              else s.forwarder.counts.intervened
            monitor := if s.forwarder.monitorOn then bump s.forwarder.counts.monitor else s.forwarder.counts.monitor } } }) ∧
    (s.forwarder.slot = none ∨ s.forwarder.holdTimer = none ∨
        (∃ h age, s.forwarder.slot = some h ∧ s.forwarder.holdTimer = some age ∧ age < h.holdLimit) →
      exec .holdExpiry s = .next s)

/-! ## Transmission (08) -/

/-- The arbiter's choice. A port that is OFF or has a frame in its slot makes none. Otherwise Q3's head is taken first, without credit;
then the head of the highest of Q2, Q1 and Q0 that holds a frame and a credit, which it spends; and when none does, the credits first
become 4, 2 and 1 (R147, R148). -/
def Obligations.ArbiterChoice : Prop :=
  ∀ (s : State) (p : PortId),
    let q := s.port p
    let spent := (q.q2 = [] ∨ q.credit2 = 0) ∧ (q.q1 = [] ∨ q.credit1 = 0) ∧ (q.q0 = [] ∨ q.credit0 = 0)
    let c2 := if spent then 4 else q.credit2
    let c1 := if spent then 2 else q.credit1
    let c0 := if spent then 1 else q.credit0
    let chosen := fun (r : Port) => exec (.transmitArbiterChoice p) s = .next (s.setPort p r)
    (q.mode = .off ∨ q.slot ≠ none → exec (.transmitArbiterChoice p) s = .next s) ∧
    (q.mode ≠ .off → q.slot = none →
      (∀ f rest, q.q3 = f :: rest → chosen { q with q3 := rest, slot := some ⟨f, .q3, 0⟩ }) ∧
      (q.q3 = [] →
        (q.q2 = [] → q.q1 = [] → q.q0 = [] → exec (.transmitArbiterChoice p) s = .next s) ∧
        (∀ f rest, q.q2 = f :: rest → 0 < c2 →
          chosen { q with q2 := rest, credit2 := c2 - 1, credit1 := c1, credit0 := c0, slot := some ⟨f, .q2, 0⟩ }) ∧
        (∀ a rest, q.q2 = [] ∨ c2 = 0 → q.q1 = a :: rest → 0 < c1 →
          chosen { q with q1 := rest, credit2 := c2, credit1 := c1 - 1, credit0 := c0, slot := some ⟨a.frame, .q1, 0⟩ }) ∧
        (∀ f rest, q.q2 = [] ∨ c2 = 0 → q.q1 = [] ∨ c1 = 0 → q.q0 = f :: rest → 0 < c0 →
          chosen { q with q0 := rest, credit2 := c2, credit1 := c1, credit0 := c0 - 1, slot := some ⟨f, .q0, 0⟩ })))

/-- Offers to the queues. An OFF port discards and counts them (R146). While a frame is in the slot, a queue with room takes the frame at
its tail (R142); a full Q3 or Q2 loses its head (R143); an alert frame takes the place of the waiting one of its level (R144); a full Q0
refuses (R145). With the slot and every queue empty, the frame goes to the slot at once (R147). That a join is counted where a frame is
pushed out or replaced is log 24. -/
def Obligations.OffersToQueues : Prop :=
  ∀ (q : Port) (f : Frame) (l : Level),
    (q.mode = .off →
      (∀ k, q.offer k f = { q with counts := { q.counts with offeredWhileOff := bump q.counts.offeredWhileOff } }) ∧
      q.offerAlert l f = { q with counts := { q.counts with offeredWhileOff := bump q.counts.offeredWhileOff } }) ∧
    (q.mode ≠ .off → q.slot ≠ none →
      (q.q3.length < 2 → q.offer .q3 f = { q with
        q3 := q.q3 ++ [f], counts := { q.counts with joined3 := bump q.counts.joined3 } }) ∧
      (2 ≤ q.q3.length → q.offer .q3 f = { q with
        q3 := q.q3.tail ++ [f]
        counts := { q.counts with joined3 := bump q.counts.joined3, overflow3 := bump q.counts.overflow3 } }) ∧
      (q.q2.length < 4 → q.offer .q2 f = { q with
        q2 := q.q2 ++ [f], counts := { q.counts with joined2 := bump q.counts.joined2 } }) ∧
      (4 ≤ q.q2.length → q.offer .q2 f = { q with
        q2 := q.q2.tail ++ [f]
        counts := { q.counts with joined2 := bump q.counts.joined2, overflow2 := bump q.counts.overflow2 } }) ∧
      (q.q0.length < 16 → q.offer .q0 f = { q with
        q0 := q.q0 ++ [f], counts := { q.counts with joined0 := bump q.counts.joined0 } }) ∧
      (16 ≤ q.q0.length → q.offer .q0 f = { q with
        counts := { q.counts with overflow0 := bump q.counts.overflow0 } }) ∧
      ((∀ a ∈ q.q1, a.level ≠ l) → q.offerAlert l f = { q with
        q1 := q.q1 ++ [⟨l, f⟩], counts := { q.counts with joined1 := bump q.counts.joined1 } }) ∧
      (∀ before a after, q.q1 = before ++ a :: after → a.level = l → (∀ b ∈ before ++ after, b.level ≠ l) →
        q.offerAlert l f = { q with
          q1 := before ++ ⟨l, f⟩ :: after
          counts := { q.counts with joined1 := bump q.counts.joined1, overflow1 := bump q.counts.overflow1 } })) ∧
    (q.mode ≠ .off → q.slot = none → q.q3 = [] → q.q2 = [] → q.q1 = [] → q.q0 = [] →
      (q.offer .q3 f).slot = some ⟨f, .q3, 0⟩ ∧ (q.offer .q2 f).slot = some ⟨f, .q2, 0⟩ ∧
      (q.offer .q0 f).slot = some ⟨f, .q0, 0⟩ ∧ (q.offerAlert l f).slot = some ⟨f, .q1, 0⟩)

/-- The two ends of an attempt. A success frees the slot, lowers the error count to a floor of 0, sets the state by it and ends the
give-up streak; a streak of 3 or more hands its end to the fault unit; then the arbiter chooses (R149, R150, R155). A failure at an error
count of 248 or more takes the port OFF: count 255, slot and queues flushed, recovery timer started, its condition present (R151, R153).
Below that the count rises by 8 and sets the state; the frame stays for its next attempt, and at its eighth failed attempt it is given up,
the streak rises, its third hands the condition present, and the arbiter chooses.
The error count handed with a condition is the count after the event's own change: 255, or the count raised by 8 (log 23). With no frame
being sent nothing happens (log 6). -/
def Obligations.AttemptEnds : Prop :=
  (∀ (s : State) (p : PortId),
      let q := s.port p
      let sent : State := s.setPort p { q with
        slot := none
        errorCount := q.errorCount - 1
        mode := if q.errorCount - 1 < 128 then .active else .passive
        giveUpStreak := 0
        counts := { q.counts with sent := bump q.counts.sent } }
      let cls : FaultClass := match p with
        | .a => .portAFault
        | .b => .portBFault
      (∀ f, q.mode ≠ .off → q.slot = some f →
        (q.giveUpStreak < 3 → exec (.transmitSuccess p) s = .next (sent.arbitrate p)) ∧
        (3 ≤ q.giveUpStreak → exec (.transmitSuccess p) s = .next ((sent.handOff (.absent cls)).arbitrate p))) ∧
      (q.mode = .off ∨ q.slot = none → exec (.transmitSuccess p) s = .next s)) ∧
  (∀ (s : State) (p : PortId),
      let q := s.port p
      let cls : FaultClass := match p with
        | .a => .portAFault
        | .b => .portBFault
      let mode : PortMode := if q.errorCount + 8 < 128 then .active else .passive
      (∀ f, q.mode ≠ .off → q.slot = some f →
        (248 ≤ q.errorCount → exec (.transmitFailure p) s = .next
          ((s.setPort p { q with
            mode := .off, errorCount := 255, slot := none, q3 := [], q2 := [], q1 := [], q0 := [], recoveryTimer := some s.now
            counts := { q.counts with
              failedAttempts := bump q.counts.failedAttempts
              flushed := min (q.counts.flushed + (1 + q.q3.length + q.q2.length + q.q1.length + q.q0.length)) 65535
              offEntries := bump q.counts.offEntries } }).handOff (.present cls (.port p) 255))) ∧
        (q.errorCount < 248 → f.failed + 1 < 8 → exec (.transmitFailure p) s = .next (s.setPort p { q with
          errorCount := q.errorCount + 8, mode := mode, slot := some { f with failed := f.failed + 1 }
          counts := { q.counts with failedAttempts := bump q.counts.failedAttempts } })) ∧
        (q.errorCount < 248 → 8 ≤ f.failed + 1 →
          let dropped : State := s.setPort p { q with
            errorCount := q.errorCount + 8, mode := mode, slot := none, giveUpStreak := bump q.giveUpStreak
            counts := { q.counts with
              failedAttempts := bump q.counts.failedAttempts, givenUp := bump q.counts.givenUp } }
          (q.giveUpStreak ≠ 2 → exec (.transmitFailure p) s = .next (dropped.arbitrate p)) ∧
          (q.giveUpStreak = 2 → exec (.transmitFailure p) s = .next
            ((dropped.handOff (.present cls (.port p) (BitVec.ofNat 16 (q.errorCount + 8)))).arbitrate p)))) ∧
      (q.mode = .off ∨ q.slot = none → exec (.transmitFailure p) s = .next s))

/-- Recovery, 50 ms after the entry into OFF: ACTIVE, counts and credits as after reset, the condition absent (R154); and at Port A one
frame for each level, 3 down to 0, carrying its present shown mask, an ACTIVE level's timer restarting and a CLOSING one becoming IDLE
(R172). Before the timer is due nothing happens (log 3). -/
def Obligations.PortRecovers : Prop :=
  ∀ (s : State) (p : PortId), s.FaultsSound →
    let q := s.port p
    let back : State := (s.setPort p { q with
      mode := .active, errorCount := 0, giveUpStreak := 0, credit2 := 4, credit1 := 2, credit0 := 1, recoveryTimer := none
      counts := { q.counts with recoveries := bump q.counts.recoveries } }).handOff
        (.absent (match p with
          | .a => .portAFault
          | .b => .portBFault))
    let frame := fun (l : Level) =>
      alertFrame s.store.chassis.vectorBase l (shownMask s.store.chassis.alertMap back.faults l)
    (∀ start, q.mode = .off → q.recoveryTimer = some start → 50 ≤ ageOf s.now start →
      (p = .b → exec (.recoveryTimerExpiry p) s = .next back) ∧
      (p = .a → ∃ t, exec (.recoveryTimerExpiry p) s = .next t ∧ SameButFaults back t ∧
        t.portA = (((back.portA.offerAlert 3 (frame 3)).offerAlert 2 (frame 2)).offerAlert 1 (frame 1)).offerAlert 0 (frame 0) ∧
        t.faults.capture = back.faults.capture ∧
        ∀ l, (t.faults.level l).frames = bump (back.faults.level l).frames ∧
          ((back.faults.level l).phase = .idle → (t.faults.level l).phase = .idle ∧ (t.faults.level l).repeatTimer = none) ∧
          ((back.faults.level l).phase = .closing → (t.faults.level l).phase = .idle ∧ (t.faults.level l).repeatTimer = none) ∧
          ((back.faults.level l).phase = .active → (t.faults.level l).repeatTimer = some s.now))) ∧
    (q.mode ≠ .off ∨ (∀ start, q.recoveryTimer = some start → ageOf s.now start < 50) →
      exec (.recoveryTimerExpiry p) s = .next s)

/-! ## Faults and alerts (09) -/

/-- An alert frame: three bytes under its level's identifier, the mask of the shown classes with class n at bit n - 1, and the vector
byte with the vector base and the lowest shown class (R170, R188). -/
def Obligations.AlertFrameFields : Prop :=
  ∀ (map : List AlertSetting) (u : FaultUnit) (base : Nat) (l : Level), base ≤ 15 →
    let shown := shownMask map u l
    let f := alertFrame base l shown
    let mask := halfOf (dataByte f.data 0) (dataByte f.data 1)
    f.ident.toNat = 0x0F3 - l.val ∧ f.data.length = 3 ∧ mask.toNat < 4096 ∧
    (∀ c : FaultClass, mask.getLsbD (c.number - 1) ↔
      (u.record c).asserted ∧ (settingOf map c).masked = false ∧ (settingOf map c).level = l) ∧
    (shown = [] → (dataByte f.data 2).toNat = base * 16) ∧
    (∀ c ∈ shown, (∀ d ∈ shown, c.number ≤ d.number) → (dataByte f.data 2).toNat = base * 16 + c.number)

/-- A repeat timer expires: one frame with the present shown mask is queued for the level; an ACTIVE level restarts its timer, its
FOLLOW events are released, and it passes to CLOSING where that empties the mask; a CLOSING level becomes IDLE (R162, R169). Before the
timer is due nothing happens (log 3). -/
def Obligations.RepeatTimerExpires : Prop :=
  ∀ (s : State) (l : Level), s.FaultsSound →
    let map := s.store.chassis.alertMap
    let shown := shownMask map s.faults l
    (∀ start, (s.faults.level l).repeatTimer = some start → 200 ≤ ageOf s.now start →
      ∃ t, exec (.repeatTimerExpiry l) s = .next t ∧ SameButFaults s t ∧
        t.portA = s.portA.offerAlert l (alertFrame s.store.chassis.vectorBase l shown) ∧
        (t.faults.level l).frames = bump (s.faults.level l).frames ∧
        (∀ c, (t.faults.record c).asserted = ((s.faults.record c).asserted &&
          !(decide (c ∈ shown ∧ (settingOf map c).release = .follow) && !c.isCondition))) ∧
        ((s.faults.level l).phase = .closing → (t.faults.level l).phase = .idle ∧ (t.faults.level l).repeatTimer = none) ∧
        ((s.faults.level l).phase = .active → (t.faults.level l).repeatTimer = some s.now ∧
          (t.faults.level l).phase = if ∃ c ∈ shown, c.isCondition ∨ (settingOf map c).release = .latched then .active
            else .closing) ∧
        (∀ k, k ≠ l → t.faults.level k = s.faults.level k) ∧ t.faults.capture = s.faults.capture) ∧
    ((∀ start, (s.faults.level l).repeatTimer = some start → ageOf s.now start < 200) →
      exec (.repeatTimerExpiry l) s = .next s)

/-- What the fault unit does with one hand-off. An event: the capture record locks or records a multiple; the occurrence is counted; a
released class is asserted and, unmasked, queues a frame of its level at once with the level's timer started; a FOLLOW event is released by
that frame, or at once when masked; an asserted class is left as it stands (R159, R162, R165, R166, R168). A condition: present on an
absent mark is an occurrence with the mark set; present on a present one, and absent on an absent one, do nothing; absent on a present one
clears the mark and releases a FOLLOW class, while a LATCHED one stays asserted (R158, R160, R161). -/
def Obligations.HandOffTaken : Prop :=
  (∀ (s : State) (c : FaultClass) (source : Source) (value : Half), s.FaultsSound →
      let t := s.handOff (.event c source value)
      let map := s.store.chassis.alertMap
      let l := (settingOf map c).level
      let keeps : Bool := c.isCondition || decide ((settingOf map c).release = .latched)
      SameButFaults s t ∧
      (t.faults.record c).occurrences = bump (s.faults.record c).occurrences ∧
      (∀ d, (t.faults.record d).cause = (s.faults.record d).cause) ∧
      (s.faults.capture = none → t.faults.captures = bump s.faults.captures ∧
        t.faults.capture = some ⟨c, source, value, s.now, s.governor.state, s.lean.lean.tdiv 10, false, 0⟩) ∧
      (∀ r, s.faults.capture = some r → t.faults.captures = s.faults.captures ∧
        t.faults.capture = some { r with multiple := true, extra := min (r.extra + 1) 255 }) ∧
      ((s.faults.record c).asserted → t.portA = s.portA ∧ t.faults.levels = s.faults.levels ∧ (t.faults.record c).asserted) ∧
      ((s.faults.record c).asserted = false → (t.faults.record c).asserted = keeps) ∧
      ((s.faults.record c).asserted = false → (settingOf map c).masked →
        t.portA = s.portA ∧ t.faults.levels = s.faults.levels) ∧
      ((s.faults.record c).asserted = false → (settingOf map c).masked = false →
        t.portA = s.portA.offerAlert l (alertFrame s.store.chassis.vectorBase l
          (allClasses.filter (fun d => decide (d = c ∨ d ∈ shownMask map s.faults l)))) ∧
        (t.faults.level l).repeatTimer = some s.now ∧ (t.faults.level l).frames = bump (s.faults.level l).frames ∧
        ∀ k, k ≠ l → t.faults.level k = s.faults.level k)) ∧
  (∀ (s : State) (c : FaultClass) (source : Source) (value : Half), s.FaultsSound → c.isCondition →
      ((s.faults.record c).cause → s.handOff (.present c source value) = s) ∧
      ((s.faults.record c).cause = false → s.handOff (.absent c) = s) ∧
      ((s.faults.record c).cause = false →
        let t := s.handOff (.present c source value)
        SameButFaults s t ∧ (t.faults.record c).cause ∧ (t.faults.record c).asserted ∧
        (t.faults.record c).occurrences = bump (s.faults.record c).occurrences ∧
        (s.faults.capture = none →
          t.faults.capture = some ⟨c, source, value, s.now, s.governor.state, s.lean.lean.tdiv 10, false, 0⟩) ∧
        ∀ d, d ≠ c → (t.faults.record d).cause = (s.faults.record d).cause) ∧
      ((s.faults.record c).cause →
        let t := s.handOff (.absent c)
        SameButFaults s t ∧ (t.faults.record c).cause = false ∧
        (t.faults.record c).asserted = decide ((settingOf s.store.chassis.alertMap c).release = .latched) ∧
        (t.faults.record c).occurrences = (s.faults.record c).occurrences ∧ t.faults.capture = s.faults.capture ∧
        ∀ d, d ≠ c → (t.faults.record d).cause = (s.faults.record d).cause))

/-- ACK_ALERT, on either identifier and in any motion: its answer and effect by the class named (R163). -/
def Obligations.AlertAcknowledged : Prop :=
  ∀ (s : State) (sender : Sender) (tag cls : Byte), s.FaultsSound →
    let u := s.takenFrom sender
    let answered := fun (v : State) (r : Result) => exec (.ackAlert sender tag cls) s = .next (v.reply sender 0x0C tag r [])
    (cls.toNat = 0 ∨ 12 < cls.toNat → answered u .badOperand) ∧
    (∀ c : FaultClass, c.number = cls.toNat →
      let r := s.faults.record c
      let release := (settingOf s.store.chassis.alertMap c).release
      (r.asserted = false → answered u .notAsserted) ∧
      (r.asserted → c.isCondition → release = .follow → answered u .notReleasable) ∧
      (r.asserted → c.isCondition = false ∨ (release = .latched ∧ r.cause = false) →
        ∃ v, answered v .done ∧ SameButFaults u v ∧ (v.faults.record c).asserted = false ∧
          v.faults.acknowledgements = bump s.faults.acknowledgements ∧ v.faults.reassertions = s.faults.reassertions ∧
          v.faults.capture = s.faults.capture) ∧
      (r.asserted → c.isCondition → release = .latched → r.cause →
        ∃ v, answered v .done ∧ SameButFaults u v ∧ (v.faults.record c).asserted ∧
          (v.faults.record c).occurrences = bump r.occurrences ∧
          v.faults.reassertions = bump s.faults.reassertions ∧ v.faults.acknowledgements = s.faults.acknowledgements ∧
          (s.faults.capture = none → v.faults.capture =
            some ⟨c, r.lastSource, r.lastValue, s.now, s.governor.state, s.lean.lean.tdiv 10, false, 0⟩)))

/-! ## Replies, the gate and the command frames (10) -/

/-- A reply: eight bytes under the reply identifier of the command's sender, code, tag, result and data with the unused bytes 0, offered
to Port A's Q0, counted, and counted as lost where Port A is OFF or its Q0 is full (R179, R180, R185). -/
def Obligations.ReplyOffered : Prop :=
  ∀ (s : State) (sender : Sender) (code tag : Byte) (result : Result) (data : List Byte), data.length ≤ 5 →
    ∃ f : Frame, f.data.length = 8 ∧
      f.ident = (match sender with
        | .dash => 0x6E8
        | .service => 0x7D8) ∧
      dataByte f.data 0 = code ∧ dataByte f.data 1 = tag ∧ (dataByte f.data 2).toNat = result.code ∧
      (∀ i, dataByte f.data (3 + i) = dataByte data i) ∧
      s.reply sender code tag result data = { s with
        portA := s.portA.offer .q0 f
        commands := { s.commands with
          repliesOffered := bump s.commands.repliesOffered
          repliesLost := if s.portA.mode = .off ∨ 16 ≤ s.portA.q0.length then bump s.commands.repliesLost
            else s.commands.repliesLost } }

/-- Standstill (R26), and the nine commands that need it: without it each is counted, answered MOVING, and reaches no owner (R177). -/
def Obligations.MovingRefused : Prop :=
  ∀ (s : State) (tag : Byte),
    let slow := fun (r : StreamRecord) => (r.state = .fresh ∨ r.state = .stale) ∧ ∃ v, r.latest = some (.speed v) ∧ v ≤ 30
    let quiet := s.torqueRequest.state ≠ .fresh ∨ ∃ t c, s.torqueRequest.latest = some (.torque t c) ∧ t ≤ 20
    let u := s.takenFrom .service
    let refused := fun (c : Instr) (code : Byte) => exec c s = .next
      (({ u with commands := { u.commands with moving := bump u.commands.moving } } : State).reply .service code tag .moving [])
    (s.standstill ↔ (slow s.wheelFront ∧ slow s.wheelRear ∧ quiet) ∨
      (s.wheelFront.state = .unseen ∧ s.wheelRear.state = .unseen)) ∧
    (s.standstill = false →
      (∀ page table index value, refused (.writePageEntry tag page table index value) 0x01) ∧
      (∀ page, refused (.sealPage tag page) 0x02) ∧ (∀ page, refused (.unsealPage tag page) 0x03) ∧
      (∀ slot expected new, refused (.mapPage tag slot expected new) 0x04) ∧
      (∀ entry field value, refused (.writeRouteField tag entry field value) 0x05) ∧
      (∀ entry, refused (.enableRoute tag entry) 0x06) ∧ (∀ entry, refused (.disableRoute tag entry) 0x07) ∧
      (∀ item value, refused (.writeChassisSetting tag item value) 0x08) ∧ refused (.restartGovernor tag) 0x09)

/-- A command frame, matched and admitted by the entry of its identifier: one of length 0 or 1 is counted malformed and not answered; a
dash frame whose code is not one of the three is refused NOT_PERMITTED; a code that names no command is refused BAD_COMMAND; any other is
the command it spells, run on the part that has delivered and admitted the frame (R10, R24, R175, R176). -/
def Obligations.CommandFrameTaken : Prop :=
  ∀ (s : State) (p : PortId) (f : Frame) (i : Nat) (sender : Sender), s.Matched p f i → s.HasBudget i →
    (s.route i).fields.cls = (match sender with
      | .dash => .dashCommand
      | .service => .serviceCommand) →
    let u := s.admitted p i
    let v := u.takenFrom sender
    let code := dataByte f.data 0
    let permitted := sender = .service ∨ code = 0x0C ∨ code = 0x13 ∨ code = 0x15
    (f.data.length < 2 → exec (.receivedFrame p f) s = .next
      { v with commands := { v.commands with malformed := bump v.commands.malformed } }) ∧
    (2 ≤ f.data.length → ¬ permitted → exec (.receivedFrame p f) s = .next
      (({ v with commands := { v.commands with notPermitted := bump v.commands.notPermitted } } : State).reply
        .dash code (dataByte f.data 1) .notPermitted [])) ∧
    (2 ≤ f.data.length → permitted → commandOf sender f.data = none → exec (.receivedFrame p f) s = .next
      (({ v with commands := { v.commands with badCommand := bump v.commands.badCommand } } : State).reply
        sender code (dataByte f.data 1) .badCommand [])) ∧
    (2 ≤ f.data.length → permitted → ∀ c, commandOf sender f.data = some c → exec (.receivedFrame p f) s = exec c u)

/-- The command frames decode to what they encode: the frame written for a command by the positions of R189 reads as that command on its
identifier, whatever bytes follow the operands; and it has room in a frame. -/
def Obligations.CommandFrameRoundTrip : Prop :=
  ∀ (c : Instr) (data extra : List Byte), encodeCommand c = some data →
    commandOf c.sender (data ++ extra) = some c ∧ 2 ≤ data.length ∧ data.length ≤ 8

/-! ## The page store's commands (07) -/

/-- WRITE_PAGE_ENTRY at standstill: its checks in order, and an accepted write, which sets that entry, changes no other and no page's
state, and is counted (R121, R123). -/
def Obligations.PageEntryWritten : Prop :=
  ∀ (s : State) (tag page table index : Byte) (value : Half), s.standstill → s.PagesSound →
    let u := s.takenFrom .service
    let answered := fun (v : State) (r : Result) =>
      exec (.writePageEntry tag page table index value) s = .next (v.reply .service 0x01 tag r [])
    let named := page.toNat ≤ 7 ∧ table.toNat ≤ 3 ∧ index.toNat ≤ (if table.toNat = 3 then 7 else 12)
    let state := (s.store.page page.toNat).state
    let range : Nat × Nat := match table.toNat with
      | 0 => (0, 400)
      | 1 => (0, 500)
      | 2 => (0, 250)
      | _ => ([(0, 64), (0, 64), (10, 200), (1, 64), (0, 50), (1, 50), (0, 400), (0, 400)] : List (Nat × Nat)).getD index.toNat (0, 0)
    let inRange := range.1 ≤ value.toNat ∧ value.toNat ≤ range.2
    (¬ named → answered u .badOperand) ∧
    (named → page = 0 → answered u .notPermitted) ∧
    (named → page ≠ 0 → state = .sealing → answered u .busy) ∧
    (named → page ≠ 0 → state = .sealed → answered u .inUse) ∧
    (named → page ≠ 0 → state = .opened → ¬ inRange → answered u .badOperand) ∧
    (named → page ≠ 0 → state = .opened → inRange →
      ∃ t, answered t .done ∧ t = { u with store := t.store } ∧
        t.store = { s.store with
          pages := t.store.pages
          counts := { s.store.counts with pageWrites := bump s.store.counts.pageWrites } } ∧
        (∀ i, (t.store.page i).state = (s.store.page i).state) ∧
        ∀ i k n, k ≤ 3 → ((t.store.page i).table k).getD n 0 =
          if i = page.toNat ∧ k = table.toNat ∧ n = index.toNat then value.toNat
          else ((s.store.page i).table k).getD n 0)

/-- A seal, from its command to its end. SEAL_PAGE at standstill: its checks in order, each answer naming the page (log 13); an accepted
seal makes the page SEALING, takes the seal record with the tag, is counted, asks for step 1 and is not answered yet (R125, R32).
SEAL_STEP_COMPLETION: a passed step 1 to 3 advances the record and asks for the next; a passed step 4 seals the page and answers DONE
under the recorded tag; a failed step opens the page again and answers SEAL_FAIL with page, table, index and reason (R127). -/
def Obligations.SealRuns : Prop :=
  (∀ (s : State) (tag page : Byte), s.standstill →
    let u := s.takenFrom .service
    let answered := fun (r : Result) => exec (.sealPage tag page) s = .next (u.reply .service 0x02 tag r [page])
    let state := (s.store.page page.toNat).state
    (7 < page.toNat → answered .badOperand) ∧
    (page.toNat ≤ 7 → state = .sealed → answered .done) ∧
    (page.toNat ≤ 7 → state ≠ .sealed → s.store.sealRecord ≠ none → answered .busy) ∧
    (page.toNat ≤ 7 → state = .opened → s.store.sealRecord = none →
      ∃ t, exec (.sealPage tag page) s = .next t ∧
        t.store = { s.store with
          pages := s.store.pages.modify page.toNat (fun p => { p with state := .sealing })
          sealRecord := some ⟨page.toNat, 1, tag⟩
          counts := { s.store.counts with sealsBegun := bump s.store.counts.sealsBegun } } ∧
        (t.engine.sealPending ∨ ∃ n, t.engine.running = some ⟨.sealStep n, false⟩ ∧ n.page = page.toNat ∧ n.step = 1) ∧
        t.portA = s.portA ∧ t.commands = u.commands ∧ t.eval = s.eval ∧ t.routes = s.routes ∧ t.faults = s.faults)) ∧
  (∀ (s : State) (n : SealSnapshot) (v : Bool) (r : SealRecord),
    s.engine.running = some ⟨.sealStep n, v⟩ → s.store.sealRecord = some r →
    ∃ t, exec .sealStepCompletion s = .next t ∧
      (n.outcome = none → r.step < 4 →
        t.store = { s.store with sealRecord := some { r with step := r.step + 1 } } ∧
        (t.engine.sealPending ∨ ∃ m, t.engine.running = some ⟨.sealStep m, false⟩ ∧ m.page = r.page ∧ m.step = r.step + 1) ∧
        t.portA = s.portA ∧ t.commands = s.commands) ∧
      (n.outcome = none → 4 ≤ r.step →
        t.store = { s.store with
          pages := s.store.pages.modify r.page (fun p => { p with state := .sealed })
          sealRecord := none
          counts := { s.store.counts with sealsPassed := bump s.store.counts.sealsPassed } } ∧
        t.portA = (s.reply .service 0x02 r.tag .done [BitVec.ofNat 8 r.page]).portA ∧
        t.commands = (s.reply .service 0x02 r.tag .done [BitVec.ofNat 8 r.page]).commands) ∧
      (∀ index reason, n.outcome = some (index, reason) →
        let data : List Byte := [BitVec.ofNat 8 r.page, BitVec.ofNat 8 (r.step - 1), BitVec.ofNat 8 index,
          match reason with
            | .range => 0
            | .bound => 1
            | .order => 2]
        t.store = { s.store with
          pages := s.store.pages.modify r.page (fun p => { p with state := .opened })
          sealRecord := none
          counts := { s.store.counts with sealFailures := bump s.store.counts.sealFailures } } ∧
        t.portA = (s.reply .service 0x02 r.tag .sealFail data).portA ∧
        t.commands = (s.reply .service 0x02 r.tag .sealFail data).commands) ∧
      t.eval = s.eval ∧ t.governor.state = s.governor.state ∧ t.forwarder = s.forwarder ∧ t.faults = s.faults ∧
      t.routes = s.routes ∧ t.portB = s.portB ∧ t.lean.lean = s.lean.lean)

/-- The checks of a SEAL_STEP, entry by entry in ascending index, at each index the range, then the bound by the hard ceiling, then the
order: the step passes exactly when every entry passes every check, and it fails exactly with the first index at which a check fails and
the first check that fails there, RANGE, BOUND or ORDER (R126, with the ranges of R121). -/
def Obligations.SealStepChecks : Prop :=
  ∀ (n : SealSnapshot), 1 ≤ n.step → n.step ≤ 4 →
    let ranges : List (Nat × Nat) := [(0, 64), (0, 64), (10, 200), (1, 64), (0, 50), (1, 50), (0, 400), (0, 400)]
    let range := fun (i v : Nat) => match n.step with
      | 1 => v ≤ 400
      | 2 => v ≤ 500
      | 3 => v ≤ 250
      | _ => ∃ r, ranges[i]? = some r ∧ r.1 ≤ v ∧ v ≤ r.2
    let bound := fun (i v : Nat) => n.step = 1 ∨ (n.step = 4 ∧ i = 6) → v ≤ n.hardCeiling
    let order := fun (i v : Nat) => n.step = 1 ∨ n.step = 3 → ∀ j w, i = j + 1 → n.entries[j]? = some w → v ≤ w
    let passes := fun (i v : Nat) => range i v ∧ bound i v ∧ order i v
    (n.outcome = none ↔ ∀ i v, n.entries[i]? = some v → passes i v) ∧
    (∀ i reason, n.outcome = some (i, reason) ↔
      (∀ j w, j < i → n.entries[j]? = some w → passes j w) ∧
      ∃ v, n.entries[i]? = some v ∧
        ((reason = .range ∧ ¬ range i v) ∨ (reason = .bound ∧ range i v ∧ ¬ bound i v) ∨
          (reason = .order ∧ range i v ∧ bound i v ∧ ¬ order i v)))

/-- UNSEAL_PAGE and MAP_PAGE at standstill. A page leaves SEALED only while no slot names it and it is neither applied, nor wanted, nor
about to be committed (R106, R129). A slot is changed only to a SEALED page and only from the page the sender expects; a conflict is
counted and answered with the page the slot names (R131). -/
def Obligations.PagesUnsealedAndMapped : Prop :=
  ∀ (s : State) (tag : Byte), s.standstill →
    let u := s.takenFrom .service
    let page := fun (b : Byte) => s.store.page b.toNat
    let inUse := fun (b : Byte) => b.toNat ∈ s.store.pageMap ∨ b.toNat = s.governor.appliedPage ∨
      b.toNat = s.store.pageMap.getD (s.governor.wanted.mode * 3 + s.governor.wanted.load) 0 ∨
      (s.engine.ceilingRunning ∧ ∃ d, s.governor.committing = some d ∧ b.toNat = d.page)
    (∀ b : Byte,
      let answered := fun (v : State) (r : Result) => exec (.unsealPage tag b) s = .next (v.reply .service 0x03 tag r [])
      (7 < b.toNat → answered u .badOperand) ∧
      (b = 0 → answered u .notPermitted) ∧
      (b ≠ 0 → b.toNat ≤ 7 → (page b).state = .opened → answered u .done) ∧
      (b ≠ 0 → b.toNat ≤ 7 → (page b).state = .sealing → answered u .busy) ∧
      (b ≠ 0 → b.toNat ≤ 7 → (page b).state = .sealed → inUse b → answered u .inUse) ∧
      (b ≠ 0 → b.toNat ≤ 7 → (page b).state = .sealed → ¬ inUse b → answered { u with store := { s.store with
        pages := s.store.pages.modify b.toNat (fun p => { p with state := .opened })
        counts := { s.store.counts with unseals := bump s.store.counts.unseals } } } .done)) ∧
    (∀ slot expected new : Byte,
      let answered := fun (v : State) (r : Result) (data : List Byte) =>
        exec (.mapPage tag slot expected new) s = .next (v.reply .service 0x04 tag r data)
      let named := slot.toNat ≤ 11 ∧ expected.toNat ≤ 7 ∧ new.toNat ≤ 7
      let held := s.store.pageMap.getD slot.toNat 0
      (¬ named → answered u .badOperand []) ∧
      (named → (page new).state ≠ .sealed → answered u .notSealed []) ∧
      (named → (page new).state = .sealed → held ≠ expected.toNat → answered { u with store := { s.store with
        counts := { s.store.counts with mapConflicts := bump s.store.counts.mapConflicts } } } .mapConflict [BitVec.ofNat 8 held]) ∧
      (named → (page new).state = .sealed → held = expected.toNat → answered { u with store := { s.store with
        pageMap := s.store.pageMap.set slot.toNat new.toNat
        counts := { s.store.counts with maps := bump s.store.counts.maps } } } .done []))

/-- WRITE_CHASSIS_SETTING at standstill: an item above 86 or a value outside its item's range is refused; an accepted value reads back, no
other item changes, and the write is counted; a write that is not of the alert map leaves the fault unit and Port A alone but for the
reply (R133 to R138). -/
def Obligations.ChassisSettingWritten : Prop :=
  ∀ (s : State) (tag item : Byte) (value : Half), s.standstill →
    s.store.chassis.windows.length = 6 → s.store.chassis.frontRadius.length = 14 → s.store.chassis.rearRadius.length = 14 →
    s.store.chassis.alertMap.length = 12 →
    let u := s.takenFrom .service
    let answered := fun (v : State) (r : Result) =>
      exec (.writeChassisSetting tag item value) s = .next (v.reply .service 0x08 tag r [])
    let n := item.toNat
    let v := value.toNat
    let w := s.store.chassis.window (n / 3)
    let bound : Int := if n < 9 then value.toInt else v
    let boundAllowed := if n < 9 then (-32767 ≤ bound ∧ bound ≤ 32767) else if n < 15 then True else v ≤ 400
    let allowed :=
      if n < 18 then
        (n % 3 = 0 → boundAllowed ∧ bound ≤ w.upper) ∧ (n % 3 = 1 → boundAllowed ∧ w.lower ≤ bound)
      else if n < 46 then 3686 ≤ v ∧ v ≤ 4096
      else if n = 46 then 1 ≤ v ∧ v ≤ 8
      else if n = 47 then v ≤ 1
      else if n < 50 then v ≤ 2
      else if n < 86 then (if n % 3 = 2 then v ≤ 3 else v ≤ 1)
      else n = 86 ∧ v ≤ 15
    (¬ allowed → answered u .badOperand) ∧
    (allowed → ∃ t, answered t .done ∧
      t = { u with store := t.store, faults := t.faults, portA := t.portA } ∧
      t.store = { s.store with
        chassis := t.store.chassis
        counts := { s.store.counts with chassisWrites := bump s.store.counts.chassisWrites } } ∧
      (t.readChassis n).data = bytesOf value ∧
      (∀ m, m ≠ n → (t.readChassis m).data = (s.readChassis m).data) ∧
      (n < 50 ∨ n = 86 → t.faults = s.faults ∧ t.portA = s.portA))

/-- An accepted write of the alert map, of a class's level, masked mark or release type, and what it does to the class (R171; that it may
release a class is log 33, that a frame releases the FOLLOW events it carries is log 27). A released class, and a write that changes nothing
or sets LATCHED, leave every level. An asserted unmasked class whose level moves leaves the old level, which queues its final frame and
becomes IDLE where it showed nothing else, and joins the new one, which queues a frame with it and restarts its timer. Masking takes it out
of its level and releases a FOLLOW event; unmasking adds it. Set to FOLLOW, a condition without a cause and a masked event are released at
once. No occurrence is raised, and the captured record and the causes stand. -/
def Obligations.AlertMapWritten : Prop :=
  ∀ (s : State) (tag item : Byte) (value : Half) (c : FaultClass) (part : Nat), s.standstill → s.FaultsSound →
    item.toNat = 50 + (c.number - 1) * 3 + part → part ≤ 2 → value.toNat ≤ (if part = 0 then 3 else 1) →
    let map := s.store.chassis.alertMap
    let old := settingOf map c
    let isOn := (s.faults.record c).asserted
    let shown := fun (l : Level) => shownMask map s.faults l
    let frame := fun (l : Level) (m : List FaultClass) => alertFrame s.store.chassis.vectorBase l m
    let alone := ∀ d ∈ shown old.level, d = c
    let leaves := fun (q : Port) (t : State) =>
      (alone → q = s.portA.offerAlert old.level (frame old.level []) ∧
        t.faults.level old.level = ⟨.idle, none, bump (s.faults.level old.level).frames⟩) ∧
      (¬ alone → q = s.portA ∧ t.faults.level old.level = s.faults.level old.level)
    let joins := fun (q : Port) (t : State) (l : Level) =>
      let carried := allClasses.filter (fun d => decide (d = c ∨ d ∈ shown l))
      let stays := fun (d : FaultClass) => d.isCondition ∨ (settingOf map d).release = .latched
      t.portA = q.offerAlert l (frame l carried) ∧
      (t.faults.level l).repeatTimer = some s.now ∧ (t.faults.level l).frames = bump (s.faults.level l).frames ∧
      (t.faults.level l).phase = (if ∃ d ∈ carried, stays d then .active else .closing) ∧
      (∀ d, (t.faults.record d).asserted ↔ (s.faults.record d).asserted ∧ (d ∈ carried → stays d))
    let released := fun (t : State) => (t.faults.record c).asserted = false ∧
      ∀ d, d ≠ c → (t.faults.record d).asserted = (s.faults.record d).asserted
    let kept := fun (t : State) => ∀ d, (t.faults.record d).asserted = (s.faults.record d).asserted
    let stands := fun (t : State) => t.faults = s.faults ∧ t.portA = s.portA
    ∃ t, exec (.writeChassisSetting tag item value) s = .next (t.reply .service 0x08 tag .done []) ∧
      t = { s.takenFrom .service with store := t.store, faults := t.faults, portA := t.portA } ∧
      t.faults.capture = s.faults.capture ∧ t.faults.captures = s.faults.captures ∧
      (∀ d, (t.faults.record d).occurrences = (s.faults.record d).occurrences ∧
        (t.faults.record d).cause = (s.faults.record d).cause) ∧
      (isOn = false → stands t) ∧
      (isOn → part = 0 →
        (old.masked ∨ value.toNat = old.level.val → stands t) ∧
        (∀ l : Level, old.masked = false → l.val = value.toNat → l ≠ old.level →
          (∃ q, leaves q t ∧ joins q t l) ∧
          ∀ k, k ≠ l → k ≠ old.level → t.faults.level k = s.faults.level k)) ∧
      (isOn → part = 1 →
        ((old.masked ↔ value.toNat = 1) → stands t) ∧
        (old.masked = false → value.toNat = 1 → leaves t.portA t ∧
          (∀ k, k ≠ old.level → t.faults.level k = s.faults.level k) ∧
          (c.isCondition = false → old.release = .follow → released t) ∧
          (c.isCondition ∨ old.release = .latched → kept t)) ∧
        (old.masked → value.toNat = 0 → joins s.portA t old.level ∧
          ∀ k, k ≠ old.level → t.faults.level k = s.faults.level k)) ∧
      (isOn → part = 2 →
        (value.toNat = 0 ∨ old.release = .follow → stands t) ∧
        (value.toNat = 1 → old.release = .latched →
          (c.isCondition → (s.faults.record c).cause → stands t) ∧
          (c.isCondition → (s.faults.record c).cause = false → released t ∧
            (old.masked = false → leaves t.portA t) ∧
            (old.masked → t.portA = s.portA ∧ t.faults.levels = s.faults.levels) ∧
            ∀ k, k ≠ old.level → t.faults.level k = s.faults.level k) ∧
          (c.isCondition = false → old.masked → released t ∧ t.portA = s.portA ∧ t.faults.levels = s.faults.levels) ∧
          (c.isCondition = false → old.masked = false → stands t)))

/-! ## The classifier's commands (01) -/

/-- WRITE_ROUTE_FIELD and ENABLE_ROUTE at standstill. An entry or field that is unknown, or a FREE entry, is refused BAD_OPERAND, an ENABLED
one IN_USE; of a DISABLED entry a field takes a value in its range, which reads back with the other fields as they were (R4, R189; that a
yes-or-no field takes 0 and 1 alone is log 15). A DISABLED entry that passes the checks in their order becomes ENABLED with its policing
state cleared; an ENABLED one stays as it is (R5). -/
def Obligations.RouteFieldAndEnable : Prop :=
  (∀ (s : State) (tag entry field : Byte) (value : Half), s.standstill →
      let u := s.takenFrom .service
      let answered := fun (v : State) (r : Result) =>
        exec (.writeRouteField tag entry field value) s = .next (v.reply .service 0x05 tag r [])
      let e := s.route entry.toNat
      let v := value.toNat
      let named := entry.toNat ≤ 47 ∧ field.toNat ≤ 10
      let allowed := match field.toNat with
        | 0 => v ≤ 1
        | 1 => v ≤ 0x7FF
        | 2 => v ≤ 7
        | 3 => v ≤ 2
        | 4 => v ≤ 0x7FF ∨ v = 0xFFFF
        | 5 => v ≤ 255
        | 6 => v ≤ 1
        | 7 => 5 ≤ v ∧ v ≤ 1000
        | 8 => 20 ≤ v ∧ v ≤ 2000
        | 9 => 5 ≤ v ∧ v ≤ 40
        | _ => 2 ≤ v ∧ v ≤ 50
      (¬ named → answered u .badOperand) ∧
      (named → e.state = .free → answered u .badOperand) ∧
      (named → e.state = .enabled → answered u .inUse) ∧
      (named → e.state = .disabled → ¬ allowed → answered u .badOperand) ∧
      (named → e.state = .disabled → allowed →
        ∃ f : RouteFields, f.read field.toNat = some v ∧ (∀ g, g ≠ field.toNat → f.read g = e.fields.read g) ∧
          answered (u.modifyRoute entry.toNat (fun x => { x with fields := f })) .done)) ∧
  (∀ (s : State) (tag entry : Byte), s.standstill →
      let u := s.takenFrom .service
      let answered := fun (v : State) (r : Result) => exec (.enableRoute tag entry) s = .next (v.reply .service 0x06 tag r [])
      let e := s.route entry.toNat
      let related := (streamOf e.fields.cls ≠ none → e.fields.staleTime < e.fields.lostTime) ∧
        (e.fields.cls = .dashCommand ∨ e.fields.cls = .serviceCommand → e.fields.port = .a)
      let doubled := ∃ j, j ≠ entry.toNat ∧ (s.route j).state = .enabled ∧
        (s.route j).fields.port = e.fields.port ∧ (s.route j).fields.ident = e.fields.ident
      let taken := e.fields.cls ≠ .pass ∧
        ∃ j, j ≠ entry.toNat ∧ (s.route j).state = .enabled ∧ (s.route j).fields.cls = e.fields.cls
      (47 < entry.toNat → answered u .badOperand) ∧
      (entry.toNat ≤ 47 → e.state = .free → answered u .badOperand) ∧
      (entry.toNat ≤ 47 → e.state = .enabled → answered u .done) ∧
      (entry.toNat ≤ 47 → e.state = .disabled →
        (¬ related → answered u .badOperand) ∧
        (related → doubled → answered u .duplicate) ∧
        (related → ¬ doubled → taken → answered u .classTaken) ∧
        (related → ¬ doubled → ¬ taken → answered (u.modifyRoute entry.toNat (fun x => { x with
          state := .enabled, windowCount := 0, droppedMark := false, floodStreak := 0 })) .done)))

/-- DISABLE_ROUTE at standstill: a FREE entry is claimed with blank values; a DISABLED one stays; an ENABLED one becomes DISABLED with its
fields and counters kept, and the stream of a consuming class returns to UNSEEN, a trusted governing one taking GOVERN to LIMP (R6, R22,
R23, R112). -/
def Obligations.RouteDisabled : Prop :=
  ∀ (s : State) (tag entry : Byte), s.standstill →
    let u := s.takenFrom .service
    let answered := fun (v : State) (r : Result) => exec (.disableRoute tag entry) s = .next (v.reply .service 0x07 tag r [])
    let e := s.route entry.toNat
    let disabled := u.modifyRoute entry.toNat (fun x => { x with state := .disabled })
    (47 < entry.toNat → answered u .badOperand) ∧
    (entry.toNat ≤ 47 → e.state = .disabled → answered u .done) ∧
    (entry.toNat ≤ 47 → e.state = .free → answered (u.modifyRoute entry.toNat (fun x => { x with
      state := .disabled, fields := ⟨.a, 0, .pass, .nowhere, none, 0, false, 50, 200, 10, 10⟩ })) .done) ∧
    (entry.toNat ≤ 47 → e.state = .enabled → streamOf e.fields.cls = none → answered disabled .done) ∧
    (∀ k, entry.toNat ≤ 47 → e.state = .enabled → streamOf e.fields.cls = some k →
      ∃ t, answered t .done ∧ t.stream k = ⟨.unseen, none, 0, none, none, 0, [], 0, none, none⟩ ∧
        (∀ j, j ≠ k → t.stream j = s.stream j) ∧ t.routes = disabled.routes ∧
        (k = .inertial ∨ k = .wheelFront ∨ k = .wheelRear → (s.stream k).state.trusted → s.governor.state = .govern →
          t.governor.state = .limp ∧ t.eval.cut = 0) ∧
        (k = .inertial → s.inertial.state.trusted → t.lean.valid = false ∧ t.lean.queue = []) ∧
        ((s.stream k).state.trusted = false → t.governor = s.governor ∧ t.lean = s.lean ∧ t.eval = s.eval) ∧
        t.store = s.store ∧ t.forwarder = s.forwarder ∧ t.portB = s.portB ∧ t.commands = u.commands)

/-! ## Governor restart, monitor switch, capture and reads (10) -/

/-- RESTART_GOVERNOR at standstill: each block takes its restart values and the reply is DONE; the restart does not reach the route table,
the page store, the selections and pages of governor control, Port B, the capture record, the monitor switch or the time base, and it
reaches Port A with the final alert frames alone, each of an empty mask, of the levels that the absent causes empty (R22, R36, R51, R82, R99,
R118, R173, R184). -/
def Obligations.GovernorRestarted : Prop :=
  ∀ (s : State) (tag : Byte), s.standstill →
    ∃ t : State, exec (.restartGovernor tag) s = .next (t.reply .service 0x09 tag .done []) ∧
      (∀ k, t.stream k = ⟨.unseen, none, 0, none, none, 0, [], 0, none, none⟩) ∧
      t.lean = { s.lean with
        lean := 0, valid := false, tPrev := none, saturated := false, decimation := 0, reportAlive := 0, queue := []
        counts := { s.lean.counts with flushed := min (s.lean.counts.flushed + s.lean.queue.length) 65535 } } ∧
      t.eval = { s.eval with
        cut := 0, published := s.appliedPage.limpCeiling, slip := 0, slipValid := false, riseLimited := false
        pageChanged := false, fold := false } ∧
      t.forwarder = { s.forwarder with
        slot := none, holdTimer := none, alive := 0
        counts := { s.forwarder.counts with
          restartDiscarded := if s.forwarder.slot = none then s.forwarder.counts.restartDiscarded
            else bump s.forwarder.counts.restartDiscarded } } ∧
      t.governor = { s.governor with
        state := .start, startTimer := .running s.now, committing := none, withdrawn := false
        counts := { s.governor.counts with
          startEntries := if s.governor.state = .start then s.governor.counts.startEntries
            else bump s.governor.counts.startEntries } } ∧
      t.engine.ceilingPending = false ∧ t.engine.sealPending = s.engine.sealPending ∧ t.engine.counts = s.engine.counts ∧
      (∀ j v, s.engine.running = some ⟨j, v⟩ → t.engine.running = some ⟨j, match j with
        | .sealStep _ => v
        | .lean _ => true
        | .ceiling _ => true⟩) ∧
      (s.engine.running = none → t.engine.running = none) ∧
      (∀ c ∈ ([.inertialLoss, .wheelLoss, .leanSaturation, .governDegraded] : List FaultClass),
        (t.faults.record c).cause = false) ∧
      (∃ levels : List Level, levels.Nodup ∧ (∀ l ∈ levels, (t.faults.level l).phase = .idle) ∧
        t.portA = levels.foldl (fun q l => q.offerAlert l (alertFrame s.store.chassis.vectorBase l [])) s.portA) ∧
      t.faults.capture = s.faults.capture ∧
      t.commands = { (s.takenFrom .service).commands with restarts := bump s.commands.restarts } ∧
      t.routes = s.routes ∧ t.store = s.store ∧ t.portB = s.portB ∧ t.now = s.now ∧ t.policingStart = s.policingStart

/-- The commands that need no standstill, but for ACK_ALERT. MONITOR_ON_OFF: 0 and 1 set the switch, any other value is refused (R97).
CLEAR_CAPTURE: the record is unlocked and emptied, and nothing else of the fault unit changes (R166). The reads answer with the page
entry and the page's state, the route field and the entry's state (a FREE entry as its blank values), the chassis item, the part of the
item, the counter, and the capture record as two frames; an operand out of range is refused; nothing but the reply changes (R124, R133,
R177, R181 to R183, R189). -/
def Obligations.UngatedCommands : Prop :=
  (∀ (s : State) (tag value : Byte),
      let u := s.takenFrom .service
      let answered := fun (v : State) (r : Result) => exec (.monitorOnOff tag value) s = .next (v.reply .service 0x0A tag r [])
      (value = 0 → answered { u with forwarder := { s.forwarder with monitorOn := false } } .done) ∧
      (value = 1 → answered { u with forwarder := { s.forwarder with monitorOn := true } } .done) ∧
      (value ≠ 0 → value ≠ 1 → answered u .badOperand) ∧
      exec (.clearCapture tag) s = .next
        (({ u with faults := { s.faults with capture := none } } : State).reply .service 0x0B tag .done [])) ∧
  (∀ (s : State) (tag a b c : Byte),
      let u := s.takenFrom .service
      let half := fun (n : Nat) => bytesOf (BitVec.ofNat 16 n)
      (let answered := fun r data => exec (.readPageEntry tag a b c) s = .next (u.reply .service 0x10 tag r data)
       let named := a.toNat ≤ 7 ∧ b.toNat ≤ 3 ∧ c.toNat ≤ (if b.toNat = 3 then 7 else 12)
       let p := s.store.page a.toNat
       let row := match b.toNat with
         | 0 => p.ceiling
         | 1 => p.slipTarget
         | 2 => p.brake
         | _ => p.scalars
       (¬ named → answered .badOperand []) ∧
       (named → answered .done (half (row.getD c.toNat 0) ++ [BitVec.ofNat 8 p.state.code]))) ∧
      (let answered := fun r data => exec (.readRouteField tag a b) s = .next (u.reply .service 0x11 tag r data)
       let e := s.route a.toNat
       let f : RouteFields := if e.state = .free then ⟨.a, 0, .pass, .nowhere, none, 0, false, 50, 200, 10, 10⟩ else e.fields
       (47 < a.toNat ∨ 10 < b.toNat → answered .badOperand []) ∧
       (∀ v, a.toNat ≤ 47 → f.read b.toNat = some v → answered .done (half v ++ [BitVec.ofNat 8 e.state.code]))) ∧
      (let answered := fun r data => exec (.readChassisSetting tag a) s = .next (u.reply .service 0x12 tag r data)
       (86 < a.toNat → answered .badOperand []) ∧
       (∀ i, chassisItem a.toNat = some i → answered .done (s.store.chassis.read i)))) ∧
  (∀ (s : State) (sender : Sender) (tag a b c : Byte),
      let u := s.takenFrom sender
      let v := s.takenFrom .service
      (let answered := fun r data => exec (.readState sender tag a b c) s = .next (u.reply sender 0x13 tag r data)
       (s.itemFields a.toNat b.toNat = none → answered .badOperand []) ∧
       (∀ fields, s.itemFields a.toNat b.toNat = some fields →
         (∀ part, (packParts [] fields)[c.toNat]? = some part → answered .done part) ∧
         ((packParts [] fields).length ≤ c.toNat → answered .badOperand []))) ∧
      (let answered := fun r data => exec (.readCounter tag a b c) s = .next (v.reply .service 0x14 tag r data)
       (v.blockCounters a.toNat b.toNat = none → answered .badOperand []) ∧
       (∀ counts, v.blockCounters a.toNat b.toNat = some counts →
         (∀ n, counts[c.toNat]? = some n → answered .done (bytesOf (BitVec.ofNat 16 n))) ∧
         (counts.length ≤ c.toNat → answered .badOperand []))) ∧
      exec (.readCapture sender tag) s = .next
        ((u.reply sender 0x15 tag .done (capturePart0 s.faults.capture)).reply sender 0x15 tag .done
          (capturePart1 s.faults.capture)))

/-- What the two reads carry. READ STATE: the parts of each item, byte by byte, its fields in the order of its rule, and BAD_OPERAND for a part
beyond the last, for an item above 10, and for a selector out of range (R181, R189, with R37, R59, R83, R101, R120, R156, R174; the
grouping of fields is log 11, a due timer's time is log 28). READ COUNTER: the counters of each block, numbered from 0 in this order, and
BAD_OPERAND beyond the last, for a block above 10, and for a selector out of range (R182, R189; the selectors of log 12). -/
def Obligations.ItemsAndCountersRead : Prop :=
  ∀ (s : State) (sender : Sender) (tag : Byte),
    let u := s.takenFrom sender
    let v := s.takenFrom .service
    let b := fun (n : Nat) => (BitVec.ofNat 8 n : Byte)
    let two := fun (n : Nat) => [b (n / 256), b n]
    let high := fun (n : Nat) => b (n / 256)
    let signedHigh := fun (x : Int) => b ((x % 65536).toNat / 256)
    let signedLow := fun (x : Int) => b (x % 65536).toNat
    let flag := fun (x : Bool) => b (if x then 1 else 0)
    let opt1 := fun (x : Option Byte) => match x with
      | some y => [1, y]
      | none => [0, 0]
    let opt2 := fun (x : Option Nat) => match x with
      | some n => (1 : Byte) :: two n
      | none => [0, 0, 0]
    let timer := fun (setting : Nat) (x : Option Stamp) => match x with
      | some start => (0 : Byte) :: two (setting - ageOf s.now start)
      | none => [1, 0, 0]
    let stateCode := fun (g : GovState) => b (match g with
      | .start => 0
      | .govern => 1
      | .limp => 2
      | .bypass => 3)
    let streamCode := fun (r : StreamRecord) => b (match r.state with
      | .unseen => 0
      | .fresh => 1
      | .stale => 2
      | .lost => 3
      | .faulty => 4)
    let reads := fun (item selector : Byte) (parts : List (List Byte)) => ∀ part : Byte,
      exec (.readState sender tag item selector part) s = .next (match parts[part.toNat]? with
        | some data => u.reply sender 0x13 tag .done data
        | none => u.reply sender 0x13 tag .badOperand [])
    let counts := fun (block selector : Byte) (values : List Nat) => ∀ counter : Byte,
      exec (.readCounter tag block selector counter) s = .next (match values[counter.toNat]? with
        | some n => v.reply .service 0x14 tag .done (two n)
        | none => v.reply .service 0x14 tag .badOperand [])
    let age := fun (r : StreamRecord) => if r.state = .unseen then 0 else ageOf s.now r.stamp
    let alive := fun (r : StreamRecord) => opt1 (r.lastAlive.map (fun a => b a.toNat))
    let marks := fun (r : StreamRecord) => b (r.history.count true)
    let speed := fun (r : StreamRecord) => opt2 (match r.latest with
      | some (.speed x) => some x
      | _ => none)
    let wheel := fun (r : StreamRecord) =>
      [streamCode r :: speed r, two (age r) ++ alive r ++ [b r.rejects], [b r.recovery, marks r]]
    let g := s.governor
    let h := s.forwarder.slot
    let x := s.inertial
    let y := s.torqueRequest
    let z := s.riderSelect
    let page := fun (i : Nat) => b (match (s.store.page i).state with
      | .opened => 0
      | .sealing => 1
      | .sealed => 2)
    let slot := fun (i : Nat) => b (s.store.pageMap.getD i 0)
    let on := fun (c : FaultClass) => flag (s.faults.record c).asserted
    let cause := fun (c : FaultClass) => flag (s.faults.record c).cause
    let phase := fun (l : Level) => b (match (s.faults.level l).phase with
      | .idle => 0
      | .active => 1
      | .closing => 2)
    let repeats := fun (l : Level) => timer 200 (s.faults.level l).repeatTimer
    let three := fun (r : Option (Int × Int × Int)) (f : Int × Int × Int → Int) => match r with
      | some w => [1, signedHigh (f w), signedLow (f w)]
      | none => [0, 0, 0]
    let inertial := match x.latest with
      | some (.inertial a c d) => some (a, c, d)
      | _ => none
    let selection := match z.latest with
      | some (.selection mode load traction) => some (mode, load, traction)
      | _ => none
    let port := fun (p : Port) =>
      [[b (match p.mode with
          | .active => 0
          | .passive => 1
          | .off => 2), b p.errorCount] ++ two p.giveUpStreak ++ [b p.q3.length],
       [b p.q2.length, b p.q1.length, b p.q0.length, flag p.slot.isSome],
       opt1 (p.slot.map (fun f => b (match f.origin with
          | .q3 => 0
          | .q2 => 1
          | .q1 => 2
          | .q0 => 3))) ++ opt1 (p.slot.map (fun f => b f.failed)) ++ [b p.credit2],
       [b p.credit1, b p.credit0] ++ timer 50 p.recoveryTimer,
       [flag (decide (p.mode = .off ∨ 3 ≤ p.giveUpStreak))]]
    let portCounts := fun (c : PortCounts) =>
      [c.delivered, c.receivedWhileOff, c.foreign, c.joined3, c.joined2, c.joined1, c.joined0, c.overflow3, c.overflow2, c.overflow1,
       c.overflow0, c.offeredWhileOff, c.sent, c.failedAttempts, c.givenUp, c.flushed, c.offEntries, c.recoveries]
    reads 0 0 [[signedHigh s.lean.lean, signedLow s.lean.lean, flag s.lean.valid],
      opt2 (s.lean.tPrev.map (·.toNat)) ++ [flag s.lean.saturated, b s.lean.decimation],
      [b s.lean.reportAlive.toNat, b s.lean.queue.length]] ∧
    reads 1 0 [[signedHigh s.eval.slip, signedLow s.eval.slip, flag s.eval.slipValid, b s.eval.cut],
      two s.eval.published ++ [flag s.eval.riseLimited, flag s.eval.pageChanged, flag s.eval.fold]] ∧
    reads 2 0 [
      stateCode g.state :: (match g.startTimer with
        | .running start => 0 :: two (3000 - ageOf s.now start)
        | .stopped => [1, 0, 0]
        | .expired => [2, 0, 0]) ++ [b g.wanted.mode],
      [b g.wanted.load, flag g.wanted.traction, b (s.store.pageMap.getD (g.wanted.mode * 3 + g.wanted.load) 0),
        b g.applied.mode, b g.applied.load],
      [flag g.applied.traction, b g.appliedPage] ++ (match g.committing with
        | some d => [1, stateCode d.state, b d.page]
        | none => [0, 0, 0]),
      [flag g.withdrawn]] ∧
    reads 3 0 [flag h.isSome :: opt2 (h.map (·.request)),
      opt1 (h.map (fun r => flag r.clamped)) ++ opt1 (h.map (fun r => b r.route)),
      opt1 (h.map (fun _ => b (s.forwarder.holdTimer.getD 0))) ++ [b s.forwarder.alive.toNat, flag s.forwarder.monitorOn]] ∧
    reads 4 0 [flag s.engine.running.isSome :: opt1 (s.engine.running.map (fun r => b (match r.job with
        | .ceiling _ => 0
        | .lean _ => 1
        | .sealStep _ => 2))) ++ [flag s.engine.ceilingPending, flag s.engine.sealPending],
      [b s.lean.queue.length]] ∧
    reads 5 0 [streamCode x :: three inertial (·.1), three inertial (·.2.1), three inertial (·.2.2) ++ two (age x),
      alive x ++ [b x.rejects, b x.recovery, marks x]] ∧
    reads 5 1 (wheel s.wheelFront) ∧ reads 5 2 (wheel s.wheelRear) ∧
    reads 5 3 [
      streamCode y :: opt2 (match y.latest with
        | some (.torque t _) => some t
        | _ => none),
      opt1 (match y.latest with
        | some (.torque _ clamped) => some (flag clamped)
        | _ => none) ++ two (age y),
      alive y ++ [b y.rejects, b y.recovery, marks y]] ∧
    reads 5 4 [
      streamCode z :: opt1 (selection.map (fun w => b w.1)) ++ opt1 (selection.map (fun w => b w.2.1)),
      opt1 (selection.map (fun w => flag w.2.2)) ++ two (age z),
      alive z ++ [b z.rejects, b z.recovery, marks z]] ∧
    reads 6 0 (port s.portA) ∧ reads 6 1 (port s.portB) ∧
    reads 7 0 [[page 0, page 1, page 2, page 3, page 4], [page 5, page 6, page 7], match s.store.sealRecord with
      | some r => [1, b r.page, b r.step, r.tag]
      | none => [0, 0, 0, 0]] ∧
    reads 8 0 [[slot 0, slot 1, slot 2, slot 3, slot 4], [slot 5, slot 6, slot 7, slot 8, slot 9], [slot 10, slot 11]] ∧
    reads 9 0 [
      [on .inertialLoss, on .wheelLoss, on .signalImplausible, on .streamFlood, on .sequenceError],
      [on .holdExpiry, on .inertialOverrun, on .portBFault, on .readbackMismatch, on .leanSaturation],
      [on .governDegraded, on .portAFault, cause .inertialLoss, cause .wheelLoss, cause .portBFault],
      [cause .leanSaturation, cause .governDegraded, cause .portAFault, phase 0],
      repeats 0 ++ [phase 1], repeats 1 ++ [phase 2], repeats 2 ++ [phase 3],
      repeats 3 ++ [flag (s.faults.classes.any (·.asserted)), flag s.faults.capture.isSome]] ∧
    reads 10 0 [[high s.now.toNat, b s.now.toNat]] ∧
    (∀ item selector : Byte, 10 < item.toNat ∨ (item ≠ 5 ∧ item ≠ 6 ∧ selector ≠ 0) ∨ (item = 5 ∧ 4 < selector.toNat) ∨
      (item = 6 ∧ 1 < selector.toNat) → reads item selector []) ∧
    (∀ i : Byte, i.toNat ≤ 47 → let c := (s.route i.toNat).counts
      counts 0 i [c.matched, c.overBudget, c.rejects, c.duplicates, c.sequenceErrors, c.accepted, c.clamped, c.forwarded]) ∧
    counts 1 0 [s.unknownA.dropped, s.unknownA.forwarded] ∧ counts 1 1 [s.unknownB.dropped, s.unknownB.forwarded] ∧
    (let c := s.engine.counts
     counts 2 0 [c.startedCeiling, c.startedLean, c.startedSeal, c.voids]) ∧
    (let c := s.lean.counts
     counts 3 0 [c.queued, c.overrun, c.flushed, c.referenceUnavailable, c.slideGain, c.fullTake, c.reportCopies]) ∧
    (let c := s.eval.counts
     counts 4 0 [c.evaluations, c.slipNotValid, c.cutGrowth, c.riseLimited, c.folded]) ∧
    (let c := s.forwarder.counts
     counts 5 0 [c.entered, c.superseded, c.completionBuilt, c.expiryBuilt, c.intervened, c.restartDiscarded, c.monitor]) ∧
    (let c := s.governor.counts
     counts 6 0 [c.startEntries, c.governEntries, c.limpEntries, c.bypassEntries, c.falls, c.safePoints, c.selectionApplied,
       c.wantedChange]) ∧
    (let c := s.store.counts
     counts 7 0 [c.pageWrites, c.sealsBegun, c.sealsPassed, c.sealFailures, c.unseals, c.maps, c.mapConflicts, c.chassisWrites]) ∧
    counts 8 0 (portCounts s.portA.counts) ∧ counts 8 1 (portCounts s.portB.counts) ∧
    counts 9 0 [s.faults.captures, s.faults.acknowledgements, s.faults.reassertions] ∧
    (∀ c : FaultClass, counts 9 (b c.number) [(s.faults.record c).occurrences]) ∧
    (∀ l : Level, counts 9 (b (101 + l.val)) [(s.faults.level l).frames]) ∧
    (let c := v.commands
     counts 10 0 [c.dashReceived, c.serviceReceived, c.malformed, c.notPermitted, c.badCommand, c.moving, c.repliesOffered,
       c.repliesLost, c.restarts]) ∧
    (∀ block selector : Byte, 10 < block.toNat ∨ (block = 0 ∧ 47 < selector.toNat) ∨
      ((block = 1 ∨ block = 8) ∧ 1 < selector.toNat) ∨
      (block = 9 ∧ 12 < selector.toNat ∧ (selector.toNat < 101 ∨ 104 < selector.toNat)) ∨
      (block ≠ 0 ∧ block ≠ 1 ∧ block ≠ 8 ∧ block ≠ 9 ∧ selector ≠ 0) → counts block selector [])

/-! ## What every step keeps -/

/-- Every step keeps both ports sound: queue depths, one frame of each level in Q1, the state that goes with the error count, nothing held
while OFF, and a frame in the slot of a port that has one waiting (R142, R144, R147, R149, R151 to R153). -/
def Obligations.PortsKept : Prop := ∀ s t : State, s.PortsSound → step s = .next t → t.PortsSound

/-- Every step keeps the route table sound: 48 entries, no two ENABLED ones with one port and identifier or one class other than PASS
(R2, R5). -/
def Obligations.RoutesKept : Prop := ∀ s t : State, s.RoutesSound → step s = .next t → t.RoutesSound

/-- Every step keeps the stream records sound: what each state says of its timers, held values, counts and sequence history (R16 to
R22). -/
def Obligations.StreamsKept : Prop := ∀ s t : State, s.StreamsSound → step s = .next t → t.StreamsSound

/-- Every step keeps the engine, the estimate and the cut sound: an IDLE engine has nothing pending, a held request has its timer and a
CEILING job for it (R30 to R33, R84 to R86); the lean stays within 65 degrees (R48); X is 0 outside GOVERN and at most 250 (R67, R69). -/
def Obligations.EvaluationKept : Prop :=
  (∀ s t : State, s.EngineSound → step s = .next t → t.EngineSound) ∧
  (∀ s t : State, s.LeanSound → step s = .next t → t.LeanSound) ∧
  (∀ s t : State, s.CutSound → step s = .next t → t.CutSound)

/-- Every step keeps the page store sound: page 0 is the ROM page, a SEALED page passes every check, every mapped, applied or committing page
is SEALED, and C_pub is within the hard ceiling of the applied page (R70 to R73, R106, R122, R126, R129). -/
def Obligations.PagesKept : Prop := ∀ s t : State, s.PagesSound → step s = .next t → t.PagesSound

/-- Every step keeps each condition's cause mark equal to the condition its owner holds (R23, R48, R117, R155, R158). -/
def Obligations.CausesKept : Prop := ∀ s t : State, s.CausesMatch → step s = .next t → t.CausesMatch

/-- Every step keeps the classes and levels sound: a phase says what its level shows and whether its timer runs, and a FOLLOW condition is
asserted exactly while its cause is present (R161, R168). -/
def Obligations.AlertsKept : Prop := ∀ s t : State, s.FaultsSound → step s = .next t → t.FaultsSound

/-- A locked capture record keeps its captured fields at every step but CLEAR_CAPTURE and POWER_ON_RESET: only the multiple flag and the
extra count change, and the count never falls (R165, R166). -/
def Obligations.CaptureKept : Prop :=
  ∀ (s t : State) (r : Capture), s.faults.capture = some r → step s = .next t →
    (∃ m x, t.faults.capture = some { r with multiple := m, extra := x } ∧ (r.multiple → m) ∧ (r.extra ≤ 255 → r.extra ≤ x)) ∨
    (∃ c rest, s.pending = c :: rest ∧ t.faults.capture = none ∧
      (c = .powerOnReset ∨ (∃ tag, c = .clearCapture tag) ∨ ∃ p f, c = .receivedFrame p f ∧ dataByte f.data 0 = 0x0B))
end

