-- ==== Sys2Proof/Laws/State.lean ====
section
/-! SUPPORT. What each shared update leaves of the state, one lemma per field, so that no later proof unfolds a record update. -/

namespace Sys2Proof.Machine

/-! ## A port replaced -/

@[simp] theorem State.setPort_now (s : State) (p : PortId) (x : Port) : (s.setPort p x).now = s.now := by cases p <;> rfl
@[simp] theorem State.setPort_policingStart (s : State) (p : PortId) (x : Port) : (s.setPort p x).policingStart = s.policingStart := by cases p <;> rfl
@[simp] theorem State.setPort_routes (s : State) (p : PortId) (x : Port) : (s.setPort p x).routes = s.routes := by cases p <;> rfl
@[simp] theorem State.setPort_unknownA (s : State) (p : PortId) (x : Port) : (s.setPort p x).unknownA = s.unknownA := by cases p <;> rfl
@[simp] theorem State.setPort_unknownB (s : State) (p : PortId) (x : Port) : (s.setPort p x).unknownB = s.unknownB := by cases p <;> rfl
@[simp] theorem State.setPort_inertial (s : State) (p : PortId) (x : Port) : (s.setPort p x).inertial = s.inertial := by cases p <;> rfl
@[simp] theorem State.setPort_wheelFront (s : State) (p : PortId) (x : Port) : (s.setPort p x).wheelFront = s.wheelFront := by cases p <;> rfl
@[simp] theorem State.setPort_wheelRear (s : State) (p : PortId) (x : Port) : (s.setPort p x).wheelRear = s.wheelRear := by cases p <;> rfl
@[simp] theorem State.setPort_torqueRequest (s : State) (p : PortId) (x : Port) : (s.setPort p x).torqueRequest = s.torqueRequest := by cases p <;> rfl
@[simp] theorem State.setPort_riderSelect (s : State) (p : PortId) (x : Port) : (s.setPort p x).riderSelect = s.riderSelect := by cases p <;> rfl
@[simp] theorem State.setPort_engine (s : State) (p : PortId) (x : Port) : (s.setPort p x).engine = s.engine := by cases p <;> rfl
@[simp] theorem State.setPort_lean (s : State) (p : PortId) (x : Port) : (s.setPort p x).lean = s.lean := by cases p <;> rfl
@[simp] theorem State.setPort_eval (s : State) (p : PortId) (x : Port) : (s.setPort p x).eval = s.eval := by cases p <;> rfl
@[simp] theorem State.setPort_forwarder (s : State) (p : PortId) (x : Port) : (s.setPort p x).forwarder = s.forwarder := by cases p <;> rfl
@[simp] theorem State.setPort_governor (s : State) (p : PortId) (x : Port) : (s.setPort p x).governor = s.governor := by cases p <;> rfl
@[simp] theorem State.setPort_store (s : State) (p : PortId) (x : Port) : (s.setPort p x).store = s.store := by cases p <;> rfl
@[simp] theorem State.setPort_faults (s : State) (p : PortId) (x : Port) : (s.setPort p x).faults = s.faults := by cases p <;> rfl
@[simp] theorem State.setPort_commands (s : State) (p : PortId) (x : Port) : (s.setPort p x).commands = s.commands := by cases p <;> rfl
@[simp] theorem State.setPort_draws (s : State) (p : PortId) (x : Port) : (s.setPort p x).draws = s.draws := by cases p <;> rfl
@[simp] theorem State.setPort_tenths (s : State) (p : PortId) (x : Port) : (s.setPort p x).tenths = s.tenths := by cases p <;> rfl
@[simp] theorem State.setPort_pending (s : State) (p : PortId) (x : Port) : (s.setPort p x).pending = s.pending := by cases p <;> rfl

@[simp] theorem State.port_setPort_same (s : State) (p : PortId) (x : Port) : (s.setPort p x).port p = x := by cases p <;> rfl
@[simp] theorem State.port_setPort_other (s : State) (p : PortId) (x : Port) : (s.setPort p x).port p.other = s.port p.other := by
  cases p <;> rfl
@[simp] theorem State.port_other_setPort (s : State) (p : PortId) (x : Port) : (s.setPort p.other x).port p = s.port p := by
  cases p <;> rfl
@[simp] theorem State.setPort_port (s : State) (p : PortId) : s.setPort p (s.port p) = s := by cases p <;> rfl
@[simp] theorem State.setPort_setPort (s : State) (p : PortId) (x y : Port) : (s.setPort p x).setPort p y = s.setPort p y := by
  cases p <;> rfl
@[simp] theorem State.stream_setPort (s : State) (p : PortId) (x : Port) (i : StreamId) : (s.setPort p x).stream i = s.stream i := by
  cases p <;> cases i <;> rfl
@[simp] theorem State.route_setPort (s : State) (p : PortId) (x : Port) (i : Nat) : (s.setPort p x).route i = s.route i := by
  cases p <;> rfl

/-! ## A stream record replaced -/

@[simp] theorem State.setStream_now (s : State) (i : StreamId) (r : StreamRecord) : (s.setStream i r).now = s.now := by cases i <;> rfl
@[simp] theorem State.setStream_policingStart (s : State) (i : StreamId) (r : StreamRecord) : (s.setStream i r).policingStart = s.policingStart := by cases i <;> rfl
@[simp] theorem State.setStream_routes (s : State) (i : StreamId) (r : StreamRecord) : (s.setStream i r).routes = s.routes := by cases i <;> rfl
@[simp] theorem State.setStream_unknownA (s : State) (i : StreamId) (r : StreamRecord) : (s.setStream i r).unknownA = s.unknownA := by cases i <;> rfl
@[simp] theorem State.setStream_unknownB (s : State) (i : StreamId) (r : StreamRecord) : (s.setStream i r).unknownB = s.unknownB := by cases i <;> rfl
@[simp] theorem State.setStream_engine (s : State) (i : StreamId) (r : StreamRecord) : (s.setStream i r).engine = s.engine := by cases i <;> rfl
@[simp] theorem State.setStream_lean (s : State) (i : StreamId) (r : StreamRecord) : (s.setStream i r).lean = s.lean := by cases i <;> rfl
@[simp] theorem State.setStream_eval (s : State) (i : StreamId) (r : StreamRecord) : (s.setStream i r).eval = s.eval := by cases i <;> rfl
@[simp] theorem State.setStream_forwarder (s : State) (i : StreamId) (r : StreamRecord) : (s.setStream i r).forwarder = s.forwarder := by cases i <;> rfl
@[simp] theorem State.setStream_governor (s : State) (i : StreamId) (r : StreamRecord) : (s.setStream i r).governor = s.governor := by cases i <;> rfl
@[simp] theorem State.setStream_store (s : State) (i : StreamId) (r : StreamRecord) : (s.setStream i r).store = s.store := by cases i <;> rfl
@[simp] theorem State.setStream_portA (s : State) (i : StreamId) (r : StreamRecord) : (s.setStream i r).portA = s.portA := by cases i <;> rfl
@[simp] theorem State.setStream_portB (s : State) (i : StreamId) (r : StreamRecord) : (s.setStream i r).portB = s.portB := by cases i <;> rfl
@[simp] theorem State.setStream_faults (s : State) (i : StreamId) (r : StreamRecord) : (s.setStream i r).faults = s.faults := by cases i <;> rfl
@[simp] theorem State.setStream_commands (s : State) (i : StreamId) (r : StreamRecord) : (s.setStream i r).commands = s.commands := by cases i <;> rfl
@[simp] theorem State.setStream_draws (s : State) (i : StreamId) (r : StreamRecord) : (s.setStream i r).draws = s.draws := by cases i <;> rfl
@[simp] theorem State.setStream_tenths (s : State) (i : StreamId) (r : StreamRecord) : (s.setStream i r).tenths = s.tenths := by cases i <;> rfl
@[simp] theorem State.setStream_pending (s : State) (i : StreamId) (r : StreamRecord) : (s.setStream i r).pending = s.pending := by cases i <;> rfl

@[simp] theorem State.stream_setStream_same (s : State) (i : StreamId) (r : StreamRecord) : (s.setStream i r).stream i = r := by
  cases i <;> rfl
theorem State.stream_setStream_ne (s : State) {i j : StreamId} (r : StreamRecord) (h : j ≠ i) :
    (s.setStream i r).stream j = s.stream j := by
  cases i <;> cases j <;> first | rfl | exact absurd rfl h
@[simp] theorem State.port_setStream (s : State) (i : StreamId) (r : StreamRecord) (p : PortId) : (s.setStream i r).port p = s.port p := by
  cases i <;> cases p <;> rfl
@[simp] theorem State.route_setStream (s : State) (i : StreamId) (r : StreamRecord) (j : Nat) : (s.setStream i r).route j = s.route j := by
  cases i <;> rfl

/-! ## A route entry changed -/

@[simp] theorem State.modifyRoute_now (s : State) (i : Nat) (f : RouteEntry → RouteEntry) : (s.modifyRoute i f).now = s.now := rfl
@[simp] theorem State.modifyRoute_policingStart (s : State) (i : Nat) (f : RouteEntry → RouteEntry) : (s.modifyRoute i f).policingStart = s.policingStart := rfl
@[simp] theorem State.modifyRoute_unknownA (s : State) (i : Nat) (f : RouteEntry → RouteEntry) : (s.modifyRoute i f).unknownA = s.unknownA := rfl
@[simp] theorem State.modifyRoute_unknownB (s : State) (i : Nat) (f : RouteEntry → RouteEntry) : (s.modifyRoute i f).unknownB = s.unknownB := rfl
@[simp] theorem State.modifyRoute_inertial (s : State) (i : Nat) (f : RouteEntry → RouteEntry) : (s.modifyRoute i f).inertial = s.inertial := rfl
@[simp] theorem State.modifyRoute_wheelFront (s : State) (i : Nat) (f : RouteEntry → RouteEntry) : (s.modifyRoute i f).wheelFront = s.wheelFront := rfl
@[simp] theorem State.modifyRoute_wheelRear (s : State) (i : Nat) (f : RouteEntry → RouteEntry) : (s.modifyRoute i f).wheelRear = s.wheelRear := rfl
@[simp] theorem State.modifyRoute_torqueRequest (s : State) (i : Nat) (f : RouteEntry → RouteEntry) : (s.modifyRoute i f).torqueRequest = s.torqueRequest := rfl
@[simp] theorem State.modifyRoute_riderSelect (s : State) (i : Nat) (f : RouteEntry → RouteEntry) : (s.modifyRoute i f).riderSelect = s.riderSelect := rfl
@[simp] theorem State.modifyRoute_engine (s : State) (i : Nat) (f : RouteEntry → RouteEntry) : (s.modifyRoute i f).engine = s.engine := rfl
@[simp] theorem State.modifyRoute_lean (s : State) (i : Nat) (f : RouteEntry → RouteEntry) : (s.modifyRoute i f).lean = s.lean := rfl
@[simp] theorem State.modifyRoute_eval (s : State) (i : Nat) (f : RouteEntry → RouteEntry) : (s.modifyRoute i f).eval = s.eval := rfl
@[simp] theorem State.modifyRoute_forwarder (s : State) (i : Nat) (f : RouteEntry → RouteEntry) : (s.modifyRoute i f).forwarder = s.forwarder := rfl
@[simp] theorem State.modifyRoute_governor (s : State) (i : Nat) (f : RouteEntry → RouteEntry) : (s.modifyRoute i f).governor = s.governor := rfl
@[simp] theorem State.modifyRoute_store (s : State) (i : Nat) (f : RouteEntry → RouteEntry) : (s.modifyRoute i f).store = s.store := rfl
@[simp] theorem State.modifyRoute_portA (s : State) (i : Nat) (f : RouteEntry → RouteEntry) : (s.modifyRoute i f).portA = s.portA := rfl
@[simp] theorem State.modifyRoute_portB (s : State) (i : Nat) (f : RouteEntry → RouteEntry) : (s.modifyRoute i f).portB = s.portB := rfl
@[simp] theorem State.modifyRoute_faults (s : State) (i : Nat) (f : RouteEntry → RouteEntry) : (s.modifyRoute i f).faults = s.faults := rfl
@[simp] theorem State.modifyRoute_commands (s : State) (i : Nat) (f : RouteEntry → RouteEntry) : (s.modifyRoute i f).commands = s.commands := rfl
@[simp] theorem State.modifyRoute_draws (s : State) (i : Nat) (f : RouteEntry → RouteEntry) : (s.modifyRoute i f).draws = s.draws := rfl
@[simp] theorem State.modifyRoute_tenths (s : State) (i : Nat) (f : RouteEntry → RouteEntry) : (s.modifyRoute i f).tenths = s.tenths := rfl
@[simp] theorem State.modifyRoute_pending (s : State) (i : Nat) (f : RouteEntry → RouteEntry) : (s.modifyRoute i f).pending = s.pending := rfl

/-! ## The counters of a route entry changed -/

@[simp] theorem State.countRoute_now (s : State) (i : Nat) (f : RouteCounts → RouteCounts) : (s.countRoute i f).now = s.now := rfl
@[simp] theorem State.countRoute_policingStart (s : State) (i : Nat) (f : RouteCounts → RouteCounts) : (s.countRoute i f).policingStart = s.policingStart := rfl
@[simp] theorem State.countRoute_unknownA (s : State) (i : Nat) (f : RouteCounts → RouteCounts) : (s.countRoute i f).unknownA = s.unknownA := rfl
@[simp] theorem State.countRoute_unknownB (s : State) (i : Nat) (f : RouteCounts → RouteCounts) : (s.countRoute i f).unknownB = s.unknownB := rfl
@[simp] theorem State.countRoute_inertial (s : State) (i : Nat) (f : RouteCounts → RouteCounts) : (s.countRoute i f).inertial = s.inertial := rfl
@[simp] theorem State.countRoute_wheelFront (s : State) (i : Nat) (f : RouteCounts → RouteCounts) : (s.countRoute i f).wheelFront = s.wheelFront := rfl
@[simp] theorem State.countRoute_wheelRear (s : State) (i : Nat) (f : RouteCounts → RouteCounts) : (s.countRoute i f).wheelRear = s.wheelRear := rfl
@[simp] theorem State.countRoute_torqueRequest (s : State) (i : Nat) (f : RouteCounts → RouteCounts) : (s.countRoute i f).torqueRequest = s.torqueRequest := rfl
@[simp] theorem State.countRoute_riderSelect (s : State) (i : Nat) (f : RouteCounts → RouteCounts) : (s.countRoute i f).riderSelect = s.riderSelect := rfl
@[simp] theorem State.countRoute_engine (s : State) (i : Nat) (f : RouteCounts → RouteCounts) : (s.countRoute i f).engine = s.engine := rfl
@[simp] theorem State.countRoute_lean (s : State) (i : Nat) (f : RouteCounts → RouteCounts) : (s.countRoute i f).lean = s.lean := rfl
@[simp] theorem State.countRoute_eval (s : State) (i : Nat) (f : RouteCounts → RouteCounts) : (s.countRoute i f).eval = s.eval := rfl
@[simp] theorem State.countRoute_forwarder (s : State) (i : Nat) (f : RouteCounts → RouteCounts) : (s.countRoute i f).forwarder = s.forwarder := rfl
@[simp] theorem State.countRoute_governor (s : State) (i : Nat) (f : RouteCounts → RouteCounts) : (s.countRoute i f).governor = s.governor := rfl
@[simp] theorem State.countRoute_store (s : State) (i : Nat) (f : RouteCounts → RouteCounts) : (s.countRoute i f).store = s.store := rfl
@[simp] theorem State.countRoute_portA (s : State) (i : Nat) (f : RouteCounts → RouteCounts) : (s.countRoute i f).portA = s.portA := rfl
@[simp] theorem State.countRoute_portB (s : State) (i : Nat) (f : RouteCounts → RouteCounts) : (s.countRoute i f).portB = s.portB := rfl
@[simp] theorem State.countRoute_faults (s : State) (i : Nat) (f : RouteCounts → RouteCounts) : (s.countRoute i f).faults = s.faults := rfl
@[simp] theorem State.countRoute_commands (s : State) (i : Nat) (f : RouteCounts → RouteCounts) : (s.countRoute i f).commands = s.commands := rfl
@[simp] theorem State.countRoute_draws (s : State) (i : Nat) (f : RouteCounts → RouteCounts) : (s.countRoute i f).draws = s.draws := rfl
@[simp] theorem State.countRoute_tenths (s : State) (i : Nat) (f : RouteCounts → RouteCounts) : (s.countRoute i f).tenths = s.tenths := rfl
@[simp] theorem State.countRoute_pending (s : State) (i : Nat) (f : RouteCounts → RouteCounts) : (s.countRoute i f).pending = s.pending := rfl

@[simp] theorem State.stream_modifyRoute (s : State) (i : Nat) (f : RouteEntry → RouteEntry) (j : StreamId) : (s.modifyRoute i f).stream j = s.stream j := by
  cases j <;> rfl
@[simp] theorem State.port_modifyRoute (s : State) (i : Nat) (f : RouteEntry → RouteEntry) (p : PortId) : (s.modifyRoute i f).port p = s.port p := by
  cases p <;> rfl
@[simp] theorem State.stream_countRoute (s : State) (i : Nat) (f : RouteCounts → RouteCounts) (j : StreamId) : (s.countRoute i f).stream j = s.stream j := by
  cases j <;> rfl
@[simp] theorem State.port_countRoute (s : State) (i : Nat) (f : RouteCounts → RouteCounts) (p : PortId) : (s.countRoute i f).port p = s.port p := by
  cases p <;> rfl

/-! ## The unknown-identifier counters changed -/

@[simp] theorem State.countUnknown_now (s : State) (p : PortId) (f : UnknownCounts → UnknownCounts) : (s.countUnknown p f).now = s.now := by cases p <;> rfl
@[simp] theorem State.countUnknown_policingStart (s : State) (p : PortId) (f : UnknownCounts → UnknownCounts) : (s.countUnknown p f).policingStart = s.policingStart := by cases p <;> rfl
@[simp] theorem State.countUnknown_routes (s : State) (p : PortId) (f : UnknownCounts → UnknownCounts) : (s.countUnknown p f).routes = s.routes := by cases p <;> rfl
@[simp] theorem State.countUnknown_inertial (s : State) (p : PortId) (f : UnknownCounts → UnknownCounts) : (s.countUnknown p f).inertial = s.inertial := by cases p <;> rfl
@[simp] theorem State.countUnknown_wheelFront (s : State) (p : PortId) (f : UnknownCounts → UnknownCounts) : (s.countUnknown p f).wheelFront = s.wheelFront := by cases p <;> rfl
@[simp] theorem State.countUnknown_wheelRear (s : State) (p : PortId) (f : UnknownCounts → UnknownCounts) : (s.countUnknown p f).wheelRear = s.wheelRear := by cases p <;> rfl
@[simp] theorem State.countUnknown_torqueRequest (s : State) (p : PortId) (f : UnknownCounts → UnknownCounts) : (s.countUnknown p f).torqueRequest = s.torqueRequest := by cases p <;> rfl
@[simp] theorem State.countUnknown_riderSelect (s : State) (p : PortId) (f : UnknownCounts → UnknownCounts) : (s.countUnknown p f).riderSelect = s.riderSelect := by cases p <;> rfl
@[simp] theorem State.countUnknown_engine (s : State) (p : PortId) (f : UnknownCounts → UnknownCounts) : (s.countUnknown p f).engine = s.engine := by cases p <;> rfl
@[simp] theorem State.countUnknown_lean (s : State) (p : PortId) (f : UnknownCounts → UnknownCounts) : (s.countUnknown p f).lean = s.lean := by cases p <;> rfl
@[simp] theorem State.countUnknown_eval (s : State) (p : PortId) (f : UnknownCounts → UnknownCounts) : (s.countUnknown p f).eval = s.eval := by cases p <;> rfl
@[simp] theorem State.countUnknown_forwarder (s : State) (p : PortId) (f : UnknownCounts → UnknownCounts) : (s.countUnknown p f).forwarder = s.forwarder := by cases p <;> rfl
@[simp] theorem State.countUnknown_governor (s : State) (p : PortId) (f : UnknownCounts → UnknownCounts) : (s.countUnknown p f).governor = s.governor := by cases p <;> rfl
@[simp] theorem State.countUnknown_store (s : State) (p : PortId) (f : UnknownCounts → UnknownCounts) : (s.countUnknown p f).store = s.store := by cases p <;> rfl
@[simp] theorem State.countUnknown_portA (s : State) (p : PortId) (f : UnknownCounts → UnknownCounts) : (s.countUnknown p f).portA = s.portA := by cases p <;> rfl
@[simp] theorem State.countUnknown_portB (s : State) (p : PortId) (f : UnknownCounts → UnknownCounts) : (s.countUnknown p f).portB = s.portB := by cases p <;> rfl
@[simp] theorem State.countUnknown_faults (s : State) (p : PortId) (f : UnknownCounts → UnknownCounts) : (s.countUnknown p f).faults = s.faults := by cases p <;> rfl
@[simp] theorem State.countUnknown_commands (s : State) (p : PortId) (f : UnknownCounts → UnknownCounts) : (s.countUnknown p f).commands = s.commands := by cases p <;> rfl
@[simp] theorem State.countUnknown_draws (s : State) (p : PortId) (f : UnknownCounts → UnknownCounts) : (s.countUnknown p f).draws = s.draws := by cases p <;> rfl
@[simp] theorem State.countUnknown_tenths (s : State) (p : PortId) (f : UnknownCounts → UnknownCounts) : (s.countUnknown p f).tenths = s.tenths := by cases p <;> rfl
@[simp] theorem State.countUnknown_pending (s : State) (p : PortId) (f : UnknownCounts → UnknownCounts) : (s.countUnknown p f).pending = s.pending := by cases p <;> rfl

@[simp] theorem State.unknown_countUnknown_same (s : State) (p : PortId) (f : UnknownCounts → UnknownCounts) :
    (s.countUnknown p f).unknown p = f (s.unknown p) := by cases p <;> rfl
@[simp] theorem State.unknown_countUnknown_other (s : State) (p : PortId) (f : UnknownCounts → UnknownCounts) :
    (s.countUnknown p f).unknown p.other = s.unknown p.other := by cases p <;> rfl
@[simp] theorem State.port_countUnknown (s : State) (p q : PortId) (f : UnknownCounts → UnknownCounts) :
    (s.countUnknown p f).port q = s.port q := by cases p <;> cases q <;> rfl

/-! ## The fault unit and Port A replaced -/

@[simp] theorem State.withFaultSide_now (s : State) (x : FaultSide) : (s.withFaultSide x).now = s.now := rfl
@[simp] theorem State.withFaultSide_policingStart (s : State) (x : FaultSide) : (s.withFaultSide x).policingStart = s.policingStart := rfl
@[simp] theorem State.withFaultSide_routes (s : State) (x : FaultSide) : (s.withFaultSide x).routes = s.routes := rfl
@[simp] theorem State.withFaultSide_unknownA (s : State) (x : FaultSide) : (s.withFaultSide x).unknownA = s.unknownA := rfl
@[simp] theorem State.withFaultSide_unknownB (s : State) (x : FaultSide) : (s.withFaultSide x).unknownB = s.unknownB := rfl
@[simp] theorem State.withFaultSide_inertial (s : State) (x : FaultSide) : (s.withFaultSide x).inertial = s.inertial := rfl
@[simp] theorem State.withFaultSide_wheelFront (s : State) (x : FaultSide) : (s.withFaultSide x).wheelFront = s.wheelFront := rfl
@[simp] theorem State.withFaultSide_wheelRear (s : State) (x : FaultSide) : (s.withFaultSide x).wheelRear = s.wheelRear := rfl
@[simp] theorem State.withFaultSide_torqueRequest (s : State) (x : FaultSide) : (s.withFaultSide x).torqueRequest = s.torqueRequest := rfl
@[simp] theorem State.withFaultSide_riderSelect (s : State) (x : FaultSide) : (s.withFaultSide x).riderSelect = s.riderSelect := rfl
@[simp] theorem State.withFaultSide_engine (s : State) (x : FaultSide) : (s.withFaultSide x).engine = s.engine := rfl
@[simp] theorem State.withFaultSide_lean (s : State) (x : FaultSide) : (s.withFaultSide x).lean = s.lean := rfl
@[simp] theorem State.withFaultSide_eval (s : State) (x : FaultSide) : (s.withFaultSide x).eval = s.eval := rfl
@[simp] theorem State.withFaultSide_forwarder (s : State) (x : FaultSide) : (s.withFaultSide x).forwarder = s.forwarder := rfl
@[simp] theorem State.withFaultSide_governor (s : State) (x : FaultSide) : (s.withFaultSide x).governor = s.governor := rfl
@[simp] theorem State.withFaultSide_store (s : State) (x : FaultSide) : (s.withFaultSide x).store = s.store := rfl
@[simp] theorem State.withFaultSide_portB (s : State) (x : FaultSide) : (s.withFaultSide x).portB = s.portB := rfl
@[simp] theorem State.withFaultSide_commands (s : State) (x : FaultSide) : (s.withFaultSide x).commands = s.commands := rfl
@[simp] theorem State.withFaultSide_draws (s : State) (x : FaultSide) : (s.withFaultSide x).draws = s.draws := rfl
@[simp] theorem State.withFaultSide_tenths (s : State) (x : FaultSide) : (s.withFaultSide x).tenths = s.tenths := rfl
@[simp] theorem State.withFaultSide_pending (s : State) (x : FaultSide) : (s.withFaultSide x).pending = s.pending := rfl

@[simp] theorem State.withFaultSide_faults (s : State) (x : FaultSide) : (s.withFaultSide x).faults = x.unit := rfl
@[simp] theorem State.withFaultSide_portA (s : State) (x : FaultSide) : (s.withFaultSide x).portA = x.port := rfl
@[simp] theorem State.withFaultSide_self (s : State) : s.withFaultSide s.faultSide = s := rfl

/-! ## One hand-off -/

@[simp] theorem State.handOff_now (s : State) (h : HandOff) : (s.handOff h).now = s.now := rfl
@[simp] theorem State.handOff_policingStart (s : State) (h : HandOff) : (s.handOff h).policingStart = s.policingStart := rfl
@[simp] theorem State.handOff_routes (s : State) (h : HandOff) : (s.handOff h).routes = s.routes := rfl
@[simp] theorem State.handOff_unknownA (s : State) (h : HandOff) : (s.handOff h).unknownA = s.unknownA := rfl
@[simp] theorem State.handOff_unknownB (s : State) (h : HandOff) : (s.handOff h).unknownB = s.unknownB := rfl
@[simp] theorem State.handOff_inertial (s : State) (h : HandOff) : (s.handOff h).inertial = s.inertial := rfl
@[simp] theorem State.handOff_wheelFront (s : State) (h : HandOff) : (s.handOff h).wheelFront = s.wheelFront := rfl
@[simp] theorem State.handOff_wheelRear (s : State) (h : HandOff) : (s.handOff h).wheelRear = s.wheelRear := rfl
@[simp] theorem State.handOff_torqueRequest (s : State) (h : HandOff) : (s.handOff h).torqueRequest = s.torqueRequest := rfl
@[simp] theorem State.handOff_riderSelect (s : State) (h : HandOff) : (s.handOff h).riderSelect = s.riderSelect := rfl
@[simp] theorem State.handOff_engine (s : State) (h : HandOff) : (s.handOff h).engine = s.engine := rfl
@[simp] theorem State.handOff_lean (s : State) (h : HandOff) : (s.handOff h).lean = s.lean := rfl
@[simp] theorem State.handOff_eval (s : State) (h : HandOff) : (s.handOff h).eval = s.eval := rfl
@[simp] theorem State.handOff_forwarder (s : State) (h : HandOff) : (s.handOff h).forwarder = s.forwarder := rfl
@[simp] theorem State.handOff_governor (s : State) (h : HandOff) : (s.handOff h).governor = s.governor := rfl
@[simp] theorem State.handOff_store (s : State) (h : HandOff) : (s.handOff h).store = s.store := rfl
@[simp] theorem State.handOff_portB (s : State) (h : HandOff) : (s.handOff h).portB = s.portB := rfl
@[simp] theorem State.handOff_commands (s : State) (h : HandOff) : (s.handOff h).commands = s.commands := rfl
@[simp] theorem State.handOff_draws (s : State) (h : HandOff) : (s.handOff h).draws = s.draws := rfl
@[simp] theorem State.handOff_tenths (s : State) (h : HandOff) : (s.handOff h).tenths = s.tenths := rfl
@[simp] theorem State.handOff_pending (s : State) (h : HandOff) : (s.handOff h).pending = s.pending := rfl

/-! ## The hand-offs of one event -/

@[simp] theorem State.handOffs_now (s : State) (hs : List HandOff) : (s.handOffs hs).now = s.now := rfl
@[simp] theorem State.handOffs_policingStart (s : State) (hs : List HandOff) : (s.handOffs hs).policingStart = s.policingStart := rfl
@[simp] theorem State.handOffs_routes (s : State) (hs : List HandOff) : (s.handOffs hs).routes = s.routes := rfl
@[simp] theorem State.handOffs_unknownA (s : State) (hs : List HandOff) : (s.handOffs hs).unknownA = s.unknownA := rfl
@[simp] theorem State.handOffs_unknownB (s : State) (hs : List HandOff) : (s.handOffs hs).unknownB = s.unknownB := rfl
@[simp] theorem State.handOffs_inertial (s : State) (hs : List HandOff) : (s.handOffs hs).inertial = s.inertial := rfl
@[simp] theorem State.handOffs_wheelFront (s : State) (hs : List HandOff) : (s.handOffs hs).wheelFront = s.wheelFront := rfl
@[simp] theorem State.handOffs_wheelRear (s : State) (hs : List HandOff) : (s.handOffs hs).wheelRear = s.wheelRear := rfl
@[simp] theorem State.handOffs_torqueRequest (s : State) (hs : List HandOff) : (s.handOffs hs).torqueRequest = s.torqueRequest := rfl
@[simp] theorem State.handOffs_riderSelect (s : State) (hs : List HandOff) : (s.handOffs hs).riderSelect = s.riderSelect := rfl
@[simp] theorem State.handOffs_engine (s : State) (hs : List HandOff) : (s.handOffs hs).engine = s.engine := rfl
@[simp] theorem State.handOffs_lean (s : State) (hs : List HandOff) : (s.handOffs hs).lean = s.lean := rfl
@[simp] theorem State.handOffs_eval (s : State) (hs : List HandOff) : (s.handOffs hs).eval = s.eval := rfl
@[simp] theorem State.handOffs_forwarder (s : State) (hs : List HandOff) : (s.handOffs hs).forwarder = s.forwarder := rfl
@[simp] theorem State.handOffs_governor (s : State) (hs : List HandOff) : (s.handOffs hs).governor = s.governor := rfl
@[simp] theorem State.handOffs_store (s : State) (hs : List HandOff) : (s.handOffs hs).store = s.store := rfl
@[simp] theorem State.handOffs_portB (s : State) (hs : List HandOff) : (s.handOffs hs).portB = s.portB := rfl
@[simp] theorem State.handOffs_commands (s : State) (hs : List HandOff) : (s.handOffs hs).commands = s.commands := rfl
@[simp] theorem State.handOffs_tenths (s : State) (hs : List HandOff) : (s.handOffs hs).tenths = s.tenths := rfl
@[simp] theorem State.handOffs_pending (s : State) (hs : List HandOff) : (s.handOffs hs).pending = s.pending := rfl

@[simp] theorem State.stream_withFaultSide (s : State) (x : FaultSide) (i : StreamId) : (s.withFaultSide x).stream i = s.stream i := by cases i <;> rfl
@[simp] theorem State.route_withFaultSide (s : State) (x : FaultSide) (i : Nat) : (s.withFaultSide x).route i = s.route i := rfl
@[simp] theorem State.stream_handOff (s : State) (x : HandOff) (i : StreamId) : (s.handOff x).stream i = s.stream i := by cases i <;> rfl
@[simp] theorem State.route_handOff (s : State) (x : HandOff) (i : Nat) : (s.handOff x).route i = s.route i := rfl
@[simp] theorem State.stream_handOffs (s : State) (x : List HandOff) (i : StreamId) : (s.handOffs x).stream i = s.stream i := by cases i <;> rfl
@[simp] theorem State.route_handOffs (s : State) (x : List HandOff) (i : Nat) : (s.handOffs x).route i = s.route i := rfl

/-! ## A frame offered to a queue -/

@[simp] theorem State.offer_now (s : State) (p : PortId) (q : PlainQueue) (f : Frame) : (s.offer p q f).now = s.now := by cases p <;> rfl
@[simp] theorem State.offer_policingStart (s : State) (p : PortId) (q : PlainQueue) (f : Frame) : (s.offer p q f).policingStart = s.policingStart := by cases p <;> rfl
@[simp] theorem State.offer_routes (s : State) (p : PortId) (q : PlainQueue) (f : Frame) : (s.offer p q f).routes = s.routes := by cases p <;> rfl
@[simp] theorem State.offer_unknownA (s : State) (p : PortId) (q : PlainQueue) (f : Frame) : (s.offer p q f).unknownA = s.unknownA := by cases p <;> rfl
@[simp] theorem State.offer_unknownB (s : State) (p : PortId) (q : PlainQueue) (f : Frame) : (s.offer p q f).unknownB = s.unknownB := by cases p <;> rfl
@[simp] theorem State.offer_inertial (s : State) (p : PortId) (q : PlainQueue) (f : Frame) : (s.offer p q f).inertial = s.inertial := by cases p <;> rfl
@[simp] theorem State.offer_wheelFront (s : State) (p : PortId) (q : PlainQueue) (f : Frame) : (s.offer p q f).wheelFront = s.wheelFront := by cases p <;> rfl
@[simp] theorem State.offer_wheelRear (s : State) (p : PortId) (q : PlainQueue) (f : Frame) : (s.offer p q f).wheelRear = s.wheelRear := by cases p <;> rfl
@[simp] theorem State.offer_torqueRequest (s : State) (p : PortId) (q : PlainQueue) (f : Frame) : (s.offer p q f).torqueRequest = s.torqueRequest := by cases p <;> rfl
@[simp] theorem State.offer_riderSelect (s : State) (p : PortId) (q : PlainQueue) (f : Frame) : (s.offer p q f).riderSelect = s.riderSelect := by cases p <;> rfl
@[simp] theorem State.offer_engine (s : State) (p : PortId) (q : PlainQueue) (f : Frame) : (s.offer p q f).engine = s.engine := by cases p <;> rfl
@[simp] theorem State.offer_lean (s : State) (p : PortId) (q : PlainQueue) (f : Frame) : (s.offer p q f).lean = s.lean := by cases p <;> rfl
@[simp] theorem State.offer_eval (s : State) (p : PortId) (q : PlainQueue) (f : Frame) : (s.offer p q f).eval = s.eval := by cases p <;> rfl
@[simp] theorem State.offer_forwarder (s : State) (p : PortId) (q : PlainQueue) (f : Frame) : (s.offer p q f).forwarder = s.forwarder := by cases p <;> rfl
@[simp] theorem State.offer_governor (s : State) (p : PortId) (q : PlainQueue) (f : Frame) : (s.offer p q f).governor = s.governor := by cases p <;> rfl
@[simp] theorem State.offer_store (s : State) (p : PortId) (q : PlainQueue) (f : Frame) : (s.offer p q f).store = s.store := by cases p <;> rfl
@[simp] theorem State.offer_faults (s : State) (p : PortId) (q : PlainQueue) (f : Frame) : (s.offer p q f).faults = s.faults := by cases p <;> rfl
@[simp] theorem State.offer_commands (s : State) (p : PortId) (q : PlainQueue) (f : Frame) : (s.offer p q f).commands = s.commands := by cases p <;> rfl
@[simp] theorem State.offer_draws (s : State) (p : PortId) (q : PlainQueue) (f : Frame) : (s.offer p q f).draws = s.draws := by cases p <;> rfl
@[simp] theorem State.offer_tenths (s : State) (p : PortId) (q : PlainQueue) (f : Frame) : (s.offer p q f).tenths = s.tenths := by cases p <;> rfl
@[simp] theorem State.offer_pending (s : State) (p : PortId) (q : PlainQueue) (f : Frame) : (s.offer p q f).pending = s.pending := by cases p <;> rfl

@[simp] theorem State.port_offer_same (s : State) (p : PortId) (q : PlainQueue) (f : Frame) :
    (s.offer p q f).port p = (s.port p).offer q f := by cases p <;> rfl
@[simp] theorem State.port_offer_other (s : State) (p : PortId) (q : PlainQueue) (f : Frame) :
    (s.offer p q f).port p.other = s.port p.other := by cases p <;> rfl
@[simp] theorem State.port_other_offer (s : State) (p : PortId) (q : PlainQueue) (f : Frame) :
    (s.offer p.other q f).port p = s.port p := by cases p <;> rfl
@[simp] theorem State.stream_offer (s : State) (p : PortId) (q : PlainQueue) (f : Frame) (i : StreamId) :
    (s.offer p q f).stream i = s.stream i := by cases p <;> cases i <;> rfl
@[simp] theorem State.offer_a_portB (s : State) (q : PlainQueue) (f : Frame) : (s.offer .a q f).portB = s.portB := rfl
@[simp] theorem State.offer_b_portA (s : State) (q : PlainQueue) (f : Frame) : (s.offer .b q f).portA = s.portA := rfl
@[simp] theorem State.offer_a_portA (s : State) (q : PlainQueue) (f : Frame) : (s.offer .a q f).portA = s.portA.offer q f := rfl
@[simp] theorem State.offer_b_portB (s : State) (q : PlainQueue) (f : Frame) : (s.offer .b q f).portB = s.portB.offer q f := rfl

/-! ## The arbiter's choice -/

@[simp] theorem State.arbitrate_now (s : State) (p : PortId) : (s.arbitrate p).now = s.now := by cases p <;> rfl
@[simp] theorem State.arbitrate_policingStart (s : State) (p : PortId) : (s.arbitrate p).policingStart = s.policingStart := by cases p <;> rfl
@[simp] theorem State.arbitrate_routes (s : State) (p : PortId) : (s.arbitrate p).routes = s.routes := by cases p <;> rfl
@[simp] theorem State.arbitrate_unknownA (s : State) (p : PortId) : (s.arbitrate p).unknownA = s.unknownA := by cases p <;> rfl
@[simp] theorem State.arbitrate_unknownB (s : State) (p : PortId) : (s.arbitrate p).unknownB = s.unknownB := by cases p <;> rfl
@[simp] theorem State.arbitrate_inertial (s : State) (p : PortId) : (s.arbitrate p).inertial = s.inertial := by cases p <;> rfl
@[simp] theorem State.arbitrate_wheelFront (s : State) (p : PortId) : (s.arbitrate p).wheelFront = s.wheelFront := by cases p <;> rfl
@[simp] theorem State.arbitrate_wheelRear (s : State) (p : PortId) : (s.arbitrate p).wheelRear = s.wheelRear := by cases p <;> rfl
@[simp] theorem State.arbitrate_torqueRequest (s : State) (p : PortId) : (s.arbitrate p).torqueRequest = s.torqueRequest := by cases p <;> rfl
@[simp] theorem State.arbitrate_riderSelect (s : State) (p : PortId) : (s.arbitrate p).riderSelect = s.riderSelect := by cases p <;> rfl
@[simp] theorem State.arbitrate_engine (s : State) (p : PortId) : (s.arbitrate p).engine = s.engine := by cases p <;> rfl
@[simp] theorem State.arbitrate_lean (s : State) (p : PortId) : (s.arbitrate p).lean = s.lean := by cases p <;> rfl
@[simp] theorem State.arbitrate_eval (s : State) (p : PortId) : (s.arbitrate p).eval = s.eval := by cases p <;> rfl
@[simp] theorem State.arbitrate_forwarder (s : State) (p : PortId) : (s.arbitrate p).forwarder = s.forwarder := by cases p <;> rfl
@[simp] theorem State.arbitrate_governor (s : State) (p : PortId) : (s.arbitrate p).governor = s.governor := by cases p <;> rfl
@[simp] theorem State.arbitrate_store (s : State) (p : PortId) : (s.arbitrate p).store = s.store := by cases p <;> rfl
@[simp] theorem State.arbitrate_faults (s : State) (p : PortId) : (s.arbitrate p).faults = s.faults := by cases p <;> rfl
@[simp] theorem State.arbitrate_commands (s : State) (p : PortId) : (s.arbitrate p).commands = s.commands := by cases p <;> rfl
@[simp] theorem State.arbitrate_draws (s : State) (p : PortId) : (s.arbitrate p).draws = s.draws := by cases p <;> rfl
@[simp] theorem State.arbitrate_tenths (s : State) (p : PortId) : (s.arbitrate p).tenths = s.tenths := by cases p <;> rfl
@[simp] theorem State.arbitrate_pending (s : State) (p : PortId) : (s.arbitrate p).pending = s.pending := by cases p <;> rfl

@[simp] theorem State.port_arbitrate_same (s : State) (p : PortId) : (s.arbitrate p).port p = (s.port p).arbitrate := by cases p <;> rfl
@[simp] theorem State.port_arbitrate_other (s : State) (p : PortId) : (s.arbitrate p).port p.other = s.port p.other := by cases p <;> rfl

/-! ## A taken frame counted -/

@[simp] theorem State.countTaken_now (s : State) (x : Sender) : (s.countTaken x).now = s.now := rfl
@[simp] theorem State.countTaken_policingStart (s : State) (x : Sender) : (s.countTaken x).policingStart = s.policingStart := rfl
@[simp] theorem State.countTaken_routes (s : State) (x : Sender) : (s.countTaken x).routes = s.routes := rfl
@[simp] theorem State.countTaken_unknownA (s : State) (x : Sender) : (s.countTaken x).unknownA = s.unknownA := rfl
@[simp] theorem State.countTaken_unknownB (s : State) (x : Sender) : (s.countTaken x).unknownB = s.unknownB := rfl
@[simp] theorem State.countTaken_inertial (s : State) (x : Sender) : (s.countTaken x).inertial = s.inertial := rfl
@[simp] theorem State.countTaken_wheelFront (s : State) (x : Sender) : (s.countTaken x).wheelFront = s.wheelFront := rfl
@[simp] theorem State.countTaken_wheelRear (s : State) (x : Sender) : (s.countTaken x).wheelRear = s.wheelRear := rfl
@[simp] theorem State.countTaken_torqueRequest (s : State) (x : Sender) : (s.countTaken x).torqueRequest = s.torqueRequest := rfl
@[simp] theorem State.countTaken_riderSelect (s : State) (x : Sender) : (s.countTaken x).riderSelect = s.riderSelect := rfl
@[simp] theorem State.countTaken_engine (s : State) (x : Sender) : (s.countTaken x).engine = s.engine := rfl
@[simp] theorem State.countTaken_lean (s : State) (x : Sender) : (s.countTaken x).lean = s.lean := rfl
@[simp] theorem State.countTaken_eval (s : State) (x : Sender) : (s.countTaken x).eval = s.eval := rfl
@[simp] theorem State.countTaken_forwarder (s : State) (x : Sender) : (s.countTaken x).forwarder = s.forwarder := rfl
@[simp] theorem State.countTaken_governor (s : State) (x : Sender) : (s.countTaken x).governor = s.governor := rfl
@[simp] theorem State.countTaken_store (s : State) (x : Sender) : (s.countTaken x).store = s.store := rfl
@[simp] theorem State.countTaken_portA (s : State) (x : Sender) : (s.countTaken x).portA = s.portA := rfl
@[simp] theorem State.countTaken_portB (s : State) (x : Sender) : (s.countTaken x).portB = s.portB := rfl
@[simp] theorem State.countTaken_faults (s : State) (x : Sender) : (s.countTaken x).faults = s.faults := rfl
@[simp] theorem State.countTaken_draws (s : State) (x : Sender) : (s.countTaken x).draws = s.draws := rfl
@[simp] theorem State.countTaken_tenths (s : State) (x : Sender) : (s.countTaken x).tenths = s.tenths := rfl
@[simp] theorem State.countTaken_pending (s : State) (x : Sender) : (s.countTaken x).pending = s.pending := rfl

/-! ## A frame counted, in the terms of the statements -/

@[simp] theorem State.takenFrom_now (s : State) (x : Sender) : (s.takenFrom x).now = s.now := rfl
@[simp] theorem State.takenFrom_policingStart (s : State) (x : Sender) : (s.takenFrom x).policingStart = s.policingStart := rfl
@[simp] theorem State.takenFrom_routes (s : State) (x : Sender) : (s.takenFrom x).routes = s.routes := rfl
@[simp] theorem State.takenFrom_unknownA (s : State) (x : Sender) : (s.takenFrom x).unknownA = s.unknownA := rfl
@[simp] theorem State.takenFrom_unknownB (s : State) (x : Sender) : (s.takenFrom x).unknownB = s.unknownB := rfl
@[simp] theorem State.takenFrom_inertial (s : State) (x : Sender) : (s.takenFrom x).inertial = s.inertial := rfl
@[simp] theorem State.takenFrom_wheelFront (s : State) (x : Sender) : (s.takenFrom x).wheelFront = s.wheelFront := rfl
@[simp] theorem State.takenFrom_wheelRear (s : State) (x : Sender) : (s.takenFrom x).wheelRear = s.wheelRear := rfl
@[simp] theorem State.takenFrom_torqueRequest (s : State) (x : Sender) : (s.takenFrom x).torqueRequest = s.torqueRequest := rfl
@[simp] theorem State.takenFrom_riderSelect (s : State) (x : Sender) : (s.takenFrom x).riderSelect = s.riderSelect := rfl
@[simp] theorem State.takenFrom_engine (s : State) (x : Sender) : (s.takenFrom x).engine = s.engine := rfl
@[simp] theorem State.takenFrom_lean (s : State) (x : Sender) : (s.takenFrom x).lean = s.lean := rfl
@[simp] theorem State.takenFrom_eval (s : State) (x : Sender) : (s.takenFrom x).eval = s.eval := rfl
@[simp] theorem State.takenFrom_forwarder (s : State) (x : Sender) : (s.takenFrom x).forwarder = s.forwarder := rfl
@[simp] theorem State.takenFrom_governor (s : State) (x : Sender) : (s.takenFrom x).governor = s.governor := rfl
@[simp] theorem State.takenFrom_store (s : State) (x : Sender) : (s.takenFrom x).store = s.store := rfl
@[simp] theorem State.takenFrom_portA (s : State) (x : Sender) : (s.takenFrom x).portA = s.portA := rfl
@[simp] theorem State.takenFrom_portB (s : State) (x : Sender) : (s.takenFrom x).portB = s.portB := rfl
@[simp] theorem State.takenFrom_faults (s : State) (x : Sender) : (s.takenFrom x).faults = s.faults := rfl
@[simp] theorem State.takenFrom_draws (s : State) (x : Sender) : (s.takenFrom x).draws = s.draws := rfl
@[simp] theorem State.takenFrom_tenths (s : State) (x : Sender) : (s.takenFrom x).tenths = s.tenths := rfl
@[simp] theorem State.takenFrom_pending (s : State) (x : Sender) : (s.takenFrom x).pending = s.pending := rfl

theorem State.countTaken_eq (s : State) (x : Sender) : s.countTaken x = s.takenFrom x := by cases x <;> rfl

/-! ## A reply -/

@[simp] theorem State.reply_now (s : State) (x : Sender) (code tag : Byte) (r : Result) (data : List Byte) : (s.reply x code tag r data).now = s.now := rfl
@[simp] theorem State.reply_policingStart (s : State) (x : Sender) (code tag : Byte) (r : Result) (data : List Byte) : (s.reply x code tag r data).policingStart = s.policingStart := rfl
@[simp] theorem State.reply_routes (s : State) (x : Sender) (code tag : Byte) (r : Result) (data : List Byte) : (s.reply x code tag r data).routes = s.routes := rfl
@[simp] theorem State.reply_unknownA (s : State) (x : Sender) (code tag : Byte) (r : Result) (data : List Byte) : (s.reply x code tag r data).unknownA = s.unknownA := rfl
@[simp] theorem State.reply_unknownB (s : State) (x : Sender) (code tag : Byte) (r : Result) (data : List Byte) : (s.reply x code tag r data).unknownB = s.unknownB := rfl
@[simp] theorem State.reply_inertial (s : State) (x : Sender) (code tag : Byte) (r : Result) (data : List Byte) : (s.reply x code tag r data).inertial = s.inertial := rfl
@[simp] theorem State.reply_wheelFront (s : State) (x : Sender) (code tag : Byte) (r : Result) (data : List Byte) : (s.reply x code tag r data).wheelFront = s.wheelFront := rfl
@[simp] theorem State.reply_wheelRear (s : State) (x : Sender) (code tag : Byte) (r : Result) (data : List Byte) : (s.reply x code tag r data).wheelRear = s.wheelRear := rfl
@[simp] theorem State.reply_torqueRequest (s : State) (x : Sender) (code tag : Byte) (r : Result) (data : List Byte) : (s.reply x code tag r data).torqueRequest = s.torqueRequest := rfl
@[simp] theorem State.reply_riderSelect (s : State) (x : Sender) (code tag : Byte) (r : Result) (data : List Byte) : (s.reply x code tag r data).riderSelect = s.riderSelect := rfl
@[simp] theorem State.reply_engine (s : State) (x : Sender) (code tag : Byte) (r : Result) (data : List Byte) : (s.reply x code tag r data).engine = s.engine := rfl
@[simp] theorem State.reply_lean (s : State) (x : Sender) (code tag : Byte) (r : Result) (data : List Byte) : (s.reply x code tag r data).lean = s.lean := rfl
@[simp] theorem State.reply_eval (s : State) (x : Sender) (code tag : Byte) (r : Result) (data : List Byte) : (s.reply x code tag r data).eval = s.eval := rfl
@[simp] theorem State.reply_forwarder (s : State) (x : Sender) (code tag : Byte) (r : Result) (data : List Byte) : (s.reply x code tag r data).forwarder = s.forwarder := rfl
@[simp] theorem State.reply_governor (s : State) (x : Sender) (code tag : Byte) (r : Result) (data : List Byte) : (s.reply x code tag r data).governor = s.governor := rfl
@[simp] theorem State.reply_store (s : State) (x : Sender) (code tag : Byte) (r : Result) (data : List Byte) : (s.reply x code tag r data).store = s.store := rfl
@[simp] theorem State.reply_portB (s : State) (x : Sender) (code tag : Byte) (r : Result) (data : List Byte) : (s.reply x code tag r data).portB = s.portB := rfl
@[simp] theorem State.reply_faults (s : State) (x : Sender) (code tag : Byte) (r : Result) (data : List Byte) : (s.reply x code tag r data).faults = s.faults := rfl
@[simp] theorem State.reply_draws (s : State) (x : Sender) (code tag : Byte) (r : Result) (data : List Byte) : (s.reply x code tag r data).draws = s.draws := rfl
@[simp] theorem State.reply_tenths (s : State) (x : Sender) (code tag : Byte) (r : Result) (data : List Byte) : (s.reply x code tag r data).tenths = s.tenths := rfl
@[simp] theorem State.reply_pending (s : State) (x : Sender) (code tag : Byte) (r : Result) (data : List Byte) : (s.reply x code tag r data).pending = s.pending := rfl

/-! ## A delivered frame counted -/

@[simp] theorem State.delivered_now (s : State) (p : PortId) : (s.delivered p).now = s.now := by cases p <;> rfl
@[simp] theorem State.delivered_policingStart (s : State) (p : PortId) : (s.delivered p).policingStart = s.policingStart := by cases p <;> rfl
@[simp] theorem State.delivered_routes (s : State) (p : PortId) : (s.delivered p).routes = s.routes := by cases p <;> rfl
@[simp] theorem State.delivered_unknownA (s : State) (p : PortId) : (s.delivered p).unknownA = s.unknownA := by cases p <;> rfl
@[simp] theorem State.delivered_unknownB (s : State) (p : PortId) : (s.delivered p).unknownB = s.unknownB := by cases p <;> rfl
@[simp] theorem State.delivered_inertial (s : State) (p : PortId) : (s.delivered p).inertial = s.inertial := by cases p <;> rfl
@[simp] theorem State.delivered_wheelFront (s : State) (p : PortId) : (s.delivered p).wheelFront = s.wheelFront := by cases p <;> rfl
@[simp] theorem State.delivered_wheelRear (s : State) (p : PortId) : (s.delivered p).wheelRear = s.wheelRear := by cases p <;> rfl
@[simp] theorem State.delivered_torqueRequest (s : State) (p : PortId) : (s.delivered p).torqueRequest = s.torqueRequest := by cases p <;> rfl
@[simp] theorem State.delivered_riderSelect (s : State) (p : PortId) : (s.delivered p).riderSelect = s.riderSelect := by cases p <;> rfl
@[simp] theorem State.delivered_engine (s : State) (p : PortId) : (s.delivered p).engine = s.engine := by cases p <;> rfl
@[simp] theorem State.delivered_lean (s : State) (p : PortId) : (s.delivered p).lean = s.lean := by cases p <;> rfl
@[simp] theorem State.delivered_eval (s : State) (p : PortId) : (s.delivered p).eval = s.eval := by cases p <;> rfl
@[simp] theorem State.delivered_forwarder (s : State) (p : PortId) : (s.delivered p).forwarder = s.forwarder := by cases p <;> rfl
@[simp] theorem State.delivered_governor (s : State) (p : PortId) : (s.delivered p).governor = s.governor := by cases p <;> rfl
@[simp] theorem State.delivered_store (s : State) (p : PortId) : (s.delivered p).store = s.store := by cases p <;> rfl
@[simp] theorem State.delivered_faults (s : State) (p : PortId) : (s.delivered p).faults = s.faults := by cases p <;> rfl
@[simp] theorem State.delivered_commands (s : State) (p : PortId) : (s.delivered p).commands = s.commands := by cases p <;> rfl
@[simp] theorem State.delivered_draws (s : State) (p : PortId) : (s.delivered p).draws = s.draws := by cases p <;> rfl
@[simp] theorem State.delivered_tenths (s : State) (p : PortId) : (s.delivered p).tenths = s.tenths := by cases p <;> rfl
@[simp] theorem State.delivered_pending (s : State) (p : PortId) : (s.delivered p).pending = s.pending := by cases p <;> rfl

/-! ## A frame admitted -/

@[simp] theorem State.admitted_now (s : State) (p : PortId) (i : Nat) : (s.admitted p i).now = s.now := by cases p <;> rfl
@[simp] theorem State.admitted_policingStart (s : State) (p : PortId) (i : Nat) : (s.admitted p i).policingStart = s.policingStart := by cases p <;> rfl
@[simp] theorem State.admitted_unknownA (s : State) (p : PortId) (i : Nat) : (s.admitted p i).unknownA = s.unknownA := by cases p <;> rfl
@[simp] theorem State.admitted_unknownB (s : State) (p : PortId) (i : Nat) : (s.admitted p i).unknownB = s.unknownB := by cases p <;> rfl
@[simp] theorem State.admitted_inertial (s : State) (p : PortId) (i : Nat) : (s.admitted p i).inertial = s.inertial := by cases p <;> rfl
@[simp] theorem State.admitted_wheelFront (s : State) (p : PortId) (i : Nat) : (s.admitted p i).wheelFront = s.wheelFront := by cases p <;> rfl
@[simp] theorem State.admitted_wheelRear (s : State) (p : PortId) (i : Nat) : (s.admitted p i).wheelRear = s.wheelRear := by cases p <;> rfl
@[simp] theorem State.admitted_torqueRequest (s : State) (p : PortId) (i : Nat) : (s.admitted p i).torqueRequest = s.torqueRequest := by cases p <;> rfl
@[simp] theorem State.admitted_riderSelect (s : State) (p : PortId) (i : Nat) : (s.admitted p i).riderSelect = s.riderSelect := by cases p <;> rfl
@[simp] theorem State.admitted_engine (s : State) (p : PortId) (i : Nat) : (s.admitted p i).engine = s.engine := by cases p <;> rfl
@[simp] theorem State.admitted_lean (s : State) (p : PortId) (i : Nat) : (s.admitted p i).lean = s.lean := by cases p <;> rfl
@[simp] theorem State.admitted_eval (s : State) (p : PortId) (i : Nat) : (s.admitted p i).eval = s.eval := by cases p <;> rfl
@[simp] theorem State.admitted_forwarder (s : State) (p : PortId) (i : Nat) : (s.admitted p i).forwarder = s.forwarder := by cases p <;> rfl
@[simp] theorem State.admitted_governor (s : State) (p : PortId) (i : Nat) : (s.admitted p i).governor = s.governor := by cases p <;> rfl
@[simp] theorem State.admitted_store (s : State) (p : PortId) (i : Nat) : (s.admitted p i).store = s.store := by cases p <;> rfl
@[simp] theorem State.admitted_faults (s : State) (p : PortId) (i : Nat) : (s.admitted p i).faults = s.faults := by cases p <;> rfl
@[simp] theorem State.admitted_commands (s : State) (p : PortId) (i : Nat) : (s.admitted p i).commands = s.commands := by cases p <;> rfl
@[simp] theorem State.admitted_draws (s : State) (p : PortId) (i : Nat) : (s.admitted p i).draws = s.draws := by cases p <;> rfl
@[simp] theorem State.admitted_tenths (s : State) (p : PortId) (i : Nat) : (s.admitted p i).tenths = s.tenths := by cases p <;> rfl
@[simp] theorem State.admitted_pending (s : State) (p : PortId) (i : Nat) : (s.admitted p i).pending = s.pending := by cases p <;> rfl

/-! ## The engine's choice -/

@[simp] theorem State.choose_now (s : State) : (s.choose).now = s.now := by
  unfold State.choose State.chooseSeal; repeat' (first | rfl | split)
@[simp] theorem State.choose_policingStart (s : State) : (s.choose).policingStart = s.policingStart := by
  unfold State.choose State.chooseSeal; repeat' (first | rfl | split)
@[simp] theorem State.choose_routes (s : State) : (s.choose).routes = s.routes := by
  unfold State.choose State.chooseSeal; repeat' (first | rfl | split)
@[simp] theorem State.choose_unknownA (s : State) : (s.choose).unknownA = s.unknownA := by
  unfold State.choose State.chooseSeal; repeat' (first | rfl | split)
@[simp] theorem State.choose_unknownB (s : State) : (s.choose).unknownB = s.unknownB := by
  unfold State.choose State.chooseSeal; repeat' (first | rfl | split)
@[simp] theorem State.choose_inertial (s : State) : (s.choose).inertial = s.inertial := by
  unfold State.choose State.chooseSeal; repeat' (first | rfl | split)
@[simp] theorem State.choose_wheelFront (s : State) : (s.choose).wheelFront = s.wheelFront := by
  unfold State.choose State.chooseSeal; repeat' (first | rfl | split)
@[simp] theorem State.choose_wheelRear (s : State) : (s.choose).wheelRear = s.wheelRear := by
  unfold State.choose State.chooseSeal; repeat' (first | rfl | split)
@[simp] theorem State.choose_torqueRequest (s : State) : (s.choose).torqueRequest = s.torqueRequest := by
  unfold State.choose State.chooseSeal; repeat' (first | rfl | split)
@[simp] theorem State.choose_riderSelect (s : State) : (s.choose).riderSelect = s.riderSelect := by
  unfold State.choose State.chooseSeal; repeat' (first | rfl | split)
@[simp] theorem State.choose_eval (s : State) : (s.choose).eval = s.eval := by
  unfold State.choose State.chooseSeal; repeat' (first | rfl | split)
@[simp] theorem State.choose_forwarder (s : State) : (s.choose).forwarder = s.forwarder := by
  unfold State.choose State.chooseSeal; repeat' (first | rfl | split)
@[simp] theorem State.choose_store (s : State) : (s.choose).store = s.store := by
  unfold State.choose State.chooseSeal; repeat' (first | rfl | split)
@[simp] theorem State.choose_portA (s : State) : (s.choose).portA = s.portA := by
  unfold State.choose State.chooseSeal; repeat' (first | rfl | split)
@[simp] theorem State.choose_portB (s : State) : (s.choose).portB = s.portB := by
  unfold State.choose State.chooseSeal; repeat' (first | rfl | split)
@[simp] theorem State.choose_faults (s : State) : (s.choose).faults = s.faults := by
  unfold State.choose State.chooseSeal; repeat' (first | rfl | split)
@[simp] theorem State.choose_commands (s : State) : (s.choose).commands = s.commands := by
  unfold State.choose State.chooseSeal; repeat' (first | rfl | split)
@[simp] theorem State.choose_draws (s : State) : (s.choose).draws = s.draws := by
  unfold State.choose State.chooseSeal; repeat' (first | rfl | split)
@[simp] theorem State.choose_tenths (s : State) : (s.choose).tenths = s.tenths := by
  unfold State.choose State.chooseSeal; repeat' (first | rfl | split)
@[simp] theorem State.choose_pending (s : State) : (s.choose).pending = s.pending := by
  unfold State.choose State.chooseSeal; repeat' (first | rfl | split)

/-! ## The choice leaves the state and pages of governor control, and the estimate -/

@[simp] theorem State.choose_governor_state (s : State) : s.choose.governor.state = s.governor.state := by
  unfold State.choose State.chooseSeal; repeat' (first | rfl | split)
@[simp] theorem State.choose_governor_wanted (s : State) : s.choose.governor.wanted = s.governor.wanted := by
  unfold State.choose State.chooseSeal; repeat' (first | rfl | split)
@[simp] theorem State.choose_governor_applied (s : State) : s.choose.governor.applied = s.governor.applied := by
  unfold State.choose State.chooseSeal; repeat' (first | rfl | split)
@[simp] theorem State.choose_governor_appliedPage (s : State) : s.choose.governor.appliedPage = s.governor.appliedPage := by
  unfold State.choose State.chooseSeal; repeat' (first | rfl | split)
@[simp] theorem State.choose_governor_startTimer (s : State) : s.choose.governor.startTimer = s.governor.startTimer := by
  unfold State.choose State.chooseSeal; repeat' (first | rfl | split)
@[simp] theorem State.choose_lean_lean (s : State) : s.choose.lean.lean = s.lean.lean := by
  unfold State.choose State.chooseSeal; repeat' (first | rfl | split)
@[simp] theorem State.choose_lean_valid (s : State) : s.choose.lean.valid = s.lean.valid := by
  unfold State.choose State.chooseSeal; repeat' (first | rfl | split)
@[simp] theorem State.choose_lean_tPrev (s : State) : s.choose.lean.tPrev = s.lean.tPrev := by
  unfold State.choose State.chooseSeal; repeat' (first | rfl | split)
@[simp] theorem State.choose_lean_saturated (s : State) : s.choose.lean.saturated = s.lean.saturated := by
  unfold State.choose State.chooseSeal; repeat' (first | rfl | split)
@[simp] theorem State.choose_lean_decimation (s : State) : s.choose.lean.decimation = s.lean.decimation := by
  unfold State.choose State.chooseSeal; repeat' (first | rfl | split)
@[simp] theorem State.choose_lean_reportAlive (s : State) : s.choose.lean.reportAlive = s.lean.reportAlive := by
  unfold State.choose State.chooseSeal; repeat' (first | rfl | split)
@[simp] theorem State.choose_lean_counts (s : State) : s.choose.lean.counts = s.lean.counts := by
  unfold State.choose State.chooseSeal; repeat' (first | rfl | split)

end Sys2Proof.Machine
end

