-- ==== Sys2Proof/Laws/Engine.lean ====
section
/-! SUPPORT. What the engine's choice and the asks can do, said once. -/

namespace Sys2Proof.Machine

/-- Everything the engine's choice can be: nothing, or the start of the highest pending job (R33). -/
theorem State.choose_cases (s : State) :
    (s.choose = s ∧ (s.engine.running ≠ none ∨
      (s.engine.ceilingPending = false ∧ s.lean.queue = [] ∧ (s.engine.sealPending = false ∨ s.store.sealRecord = none)))) ∨
    (s.engine.running = none ∧
      ((s.engine.ceilingPending ∧ s.choose = s.startCeiling) ∨
       (s.engine.ceilingPending = false ∧
         ((∃ x rest, s.lean.queue = x :: rest ∧ s.choose = s.startLean x rest) ∨
          (s.lean.queue = [] ∧ s.engine.sealPending ∧ ∃ r, s.store.sealRecord = some r ∧ s.choose = s.startSeal r))))) := by
  cases hr : s.engine.running with
  | some j => exact .inl ⟨by simp [State.choose, hr], .inl (by simp)⟩
  | none =>
    cases hc : s.engine.ceilingPending with
    | true => exact .inr ⟨rfl, .inl ⟨rfl, by simp [State.choose, hr, hc]⟩⟩
    | false =>
      cases hq : s.lean.queue with
      | cons x rest => exact .inr ⟨rfl, .inr ⟨rfl, .inl ⟨x, rest, rfl, by simp [State.choose, hr, hc, hq]⟩⟩⟩
      | nil =>
        cases hs : s.engine.sealPending with
        | false => exact .inl ⟨by simp [State.choose, State.chooseSeal, hr, hc, hq, hs], .inr ⟨rfl, rfl, .inl rfl⟩⟩
        | true =>
          cases hrec : s.store.sealRecord with
          | none => exact .inl ⟨by simp [State.choose, State.chooseSeal, hr, hc, hq, hs, hrec], .inr ⟨rfl, rfl, .inr rfl⟩⟩
          | some r =>
            exact .inr ⟨rfl, .inr ⟨rfl, .inr ⟨rfl, rfl, r, rfl, by simp [State.choose, State.chooseSeal, hr, hc, hq, hs, hrec]⟩⟩⟩

/-- A busy engine chooses nothing. -/
theorem State.choose_busy {s : State} (h : s.engine.running ≠ none) : s.choose = s := by
  rcases s.choose_cases with ⟨e, _⟩ | ⟨idle, _⟩
  · exact e
  · exact absurd idle h

/-- The choice reaches the engine, the sample queue and governor control alone. -/
theorem State.choose_frame (s : State) :
    s.choose = { s with
      engine := s.choose.engine, lean := { s.lean with queue := s.choose.lean.queue }, governor := s.choose.governor } := by
  rcases s.choose_cases with ⟨e, _⟩ | ⟨_, ⟨_, e⟩ | ⟨_, ⟨x, rest, _, e⟩ | ⟨_, _, r, _, e⟩⟩⟩ <;> rw [e] <;> rfl

/-- The choice leaves of governor control what a decision does not write. -/
theorem State.choose_governor (s : State) :
    s.choose.governor.state = s.governor.state ∧ s.choose.governor.wanted = s.governor.wanted ∧
    s.choose.governor.applied = s.governor.applied ∧ s.choose.governor.appliedPage = s.governor.appliedPage ∧
    s.choose.governor.startTimer = s.governor.startTimer := by
  rcases s.choose_cases with ⟨e, _⟩ | ⟨_, ⟨_, e⟩ | ⟨_, ⟨x, rest, _, e⟩ | ⟨_, _, r, _, e⟩⟩⟩ <;> rw [e] <;>
    exact ⟨rfl, rfl, rfl, rfl, rfl⟩

/-- An engine that is IDLE after its choice has nothing pending, where a pending step has its record (R33). -/
theorem State.choose_idle {s : State} (record : s.engine.sealPending → s.store.sealRecord ≠ none)
    (h : s.choose.engine.running = none) :
    s.choose = s ∧ s.engine.ceilingPending = false ∧ s.lean.queue = [] ∧ s.engine.sealPending = false := by
  rcases s.choose_cases with ⟨e, h' | ⟨hc, hq, hs⟩⟩ | ⟨_, ⟨_, e⟩ | ⟨_, ⟨x, rest, _, e⟩ | ⟨_, _, r, _, e⟩⟩⟩
  · rw [e] at h
    exact absurd h h'
  · refine ⟨e, hc, hq, ?_⟩
    rcases hs with hs | hs
    · exact hs
    · by_contra hp
      exact record (by simpa using hp) hs
  all_goals
    rw [e] at h
    exact nomatch h

/-- An ask for a CEILING job is absorbed, or sets the flag and lets the engine choose (R30). -/
theorem State.askCeiling_cases (s : State) :
    (s.askCeiling = s ∧ (s.engine.ceilingPending ∨ s.engine.ceilingRunning)) ∨
    (s.engine.ceilingPending = false ∧ s.engine.ceilingRunning = false ∧
      s.askCeiling = ({ s with engine := { s.engine with ceilingPending := true } } : State).choose) := by
  unfold State.askCeiling
  split
  · rename_i h
    exact .inl ⟨rfl, by simpa using h⟩
  · rename_i h
    simp only [Bool.or_eq_true, not_or, Bool.not_eq_true] at h
    exact .inr ⟨h.1, h.2, rfl⟩

/-- After an ask a CEILING job is pending or runs unvoided (R30). -/
theorem State.askCeiling_served (s : State) : s.askCeiling.engine.ceilingPending ∨ s.askCeiling.engine.ceilingRunning := by
  rcases s.askCeiling_cases with ⟨e, h⟩ | ⟨_, _, e⟩
  · rw [e]
    exact h
  · rw [e]
    rcases State.choose_cases { s with engine := { s.engine with ceilingPending := true } } with
      ⟨e', _⟩ | ⟨_, ⟨_, e'⟩ | ⟨h, _⟩⟩
    · rw [e']
      exact .inl rfl
    · rw [e']
      exact .inr rfl
    · exact nomatch h

end Sys2Proof.Machine
end

