-- ==== Sys2Proof/Laws/Ports.lean ====
section
/-! SUPPORT. What the offers and the arbiter's choice do to a port, said once: they keep its bounds, and they leave it with its
choice made. -/

namespace Sys2Proof.Machine

/-! ## The arbiter's choice -/

/-- Everything the arbiter's choice can be: nothing, the head of Q3, or a choice by credits (R147). -/
theorem Port.arbitrate_cases (p : Port) :
    (p.arbitrate = p ∧ (p.mode = .off ∨ p.slot ≠ none)) ∨
    (p.mode ≠ .off ∧ p.slot = none ∧
      ((∃ f rest, p.q3 = f :: rest ∧ p.arbitrate = { p with q3 := rest, slot := some ⟨f, .q3, 0⟩ }) ∨
       (p.q3 = [] ∧ p.arbitrate = p.roundForChoice.takeByCredit))) := by
  unfold Port.arbitrate
  split
  · rename_i h
    exact .inl ⟨rfl, h.imp id (fun h e => by simp [e] at h)⟩
  · rename_i h
    simp only [not_or, Bool.not_eq_true, Option.isSome_eq_false_iff, Option.isNone_iff_eq_none] at h
    refine .inr ⟨h.1, h.2, ?_⟩
    split
    · rename_i f rest e
      exact .inl ⟨f, rest, e, rfl⟩
    · rename_i e
      exact .inr ⟨e, rfl⟩

/-- The round in force differs from the port in its credits alone. -/
theorem Port.roundForChoice_cases (p : Port) : p.roundForChoice = p ∨ p.roundForChoice = p.newRound := by
  unfold Port.roundForChoice
  split
  · exact .inr rfl
  · exact .inl rfl

/-- A choice by credits moves one head to the slot and spends a credit of its queue, or does nothing (R148). -/
theorem Port.takeByCredit_cases (p : Port) :
    (∃ f rest, p.q2 = f :: rest ∧ 0 < p.credit2 ∧
      p.takeByCredit = { p with q2 := rest, credit2 := p.credit2 - 1, slot := some ⟨f, .q2, 0⟩ }) ∨
    (∃ a rest, p.q1 = a :: rest ∧ 0 < p.credit1 ∧
      p.takeByCredit = { p with q1 := rest, credit1 := p.credit1 - 1, slot := some ⟨a.frame, .q1, 0⟩ }) ∨
    (∃ f rest, p.q0 = f :: rest ∧ 0 < p.credit0 ∧
      p.takeByCredit = { p with q0 := rest, credit0 := p.credit0 - 1, slot := some ⟨f, .q0, 0⟩ }) ∨
    (p.anyEligible = false ∧ p.takeByCredit = p) := by
  unfold Port.takeByCredit
  split
  · rename_i h
    simp only [Port.eligible2, decide_eq_true_eq] at h
    obtain ⟨f, rest, e⟩ := List.exists_cons_of_ne_nil h.1
    exact .inl ⟨f, rest, e, h.2, by simp [e]⟩
  · rename_i h2
    split
    · rename_i h
      simp only [Port.eligible1, decide_eq_true_eq] at h
      obtain ⟨f, rest, e⟩ := List.exists_cons_of_ne_nil h.1
      exact .inr (.inl ⟨f, rest, e, h.2, by simp [e]⟩)
    · rename_i h1
      split
      · rename_i h
        simp only [Port.eligible0, decide_eq_true_eq] at h
        obtain ⟨f, rest, e⟩ := List.exists_cons_of_ne_nil h.1
        exact .inr (.inr (.inl ⟨f, rest, e, h.2, by simp [e]⟩))
      · rename_i h0
        exact .inr (.inr (.inr ⟨by simp [Port.anyEligible, h2, h1, h0], rfl⟩))

/-- In the round in force, a port with a waiting frame below Q3 has an eligible queue (R148). -/
theorem Port.roundForChoice_eligible (p : Port) (h : p.roundForChoice.anyEligible = false) :
    p.q2 = [] ∧ p.q1 = [] ∧ p.q0 = [] := by
  unfold Port.roundForChoice at h
  split at h
  · simpa [Port.anyEligible, Port.eligible2, Port.eligible1, Port.eligible0, Port.newRound, and_assoc] using h
  · rename_i hn
    simpa [h, Port.lowerHold, and_assoc] using hn

/-- A new round keeps the bounds. -/
theorem Port.Bounded.newRound {p : Port} (h : p.Bounded) : p.newRound.Bounded :=
  ⟨h.depth3, h.depth2, h.levels1, h.depth0, h.attempts, by simp [Port.newRound], h.off, h.on⟩

/-- The round in force keeps the bounds. -/
theorem Port.Bounded.roundForChoice {p : Port} (h : p.Bounded) : p.roundForChoice.Bounded := by
  rcases p.roundForChoice_cases with e | e <;> rw [e]
  · exact h
  · exact h.newRound

/-- A choice by credits keeps the bounds. -/
theorem Port.Bounded.takeByCredit {p : Port} (h : p.Bounded) (on : p.mode ≠ .off) : p.takeByCredit.Bounded := by
  have hc := h.credits
  rcases p.takeByCredit_cases with ⟨f, rest, e, _, r⟩ | ⟨f, rest, e, _, r⟩ | ⟨f, rest, e, _, r⟩ | ⟨_, r⟩ <;> rw [r]
  · have := h.depth2
    simp only [e, List.length_cons] at this
    exact ⟨h.depth3, by simp only; omega, h.levels1, h.depth0, by rintro _ ⟨⟩; simp, by simp only; omega, fun x => absurd x on, h.on⟩
  · have := h.levels1
    simp only [e, List.map_cons, List.nodup_cons] at this
    exact ⟨h.depth3, h.depth2, this.2, h.depth0, by rintro _ ⟨⟩; simp, by simp only; omega, fun x => absurd x on, h.on⟩
  · have := h.depth0
    simp only [e, List.length_cons] at this
    exact ⟨h.depth3, h.depth2, h.levels1, by simp only; omega, by rintro _ ⟨⟩; simp, by simp only; omega, fun x => absurd x on, h.on⟩
  · exact h

/-- A choice by credits leaves the mode as it was. -/
theorem Port.takeByCredit_mode (p : Port) : p.takeByCredit.mode = p.mode := by
  rcases p.takeByCredit_cases with ⟨_, _, _, _, r⟩ | ⟨_, _, _, _, r⟩ | ⟨_, _, _, _, r⟩ | ⟨_, r⟩ <;> rw [r]

/-- The round in force leaves the mode as it was. -/
theorem Port.roundForChoice_mode (p : Port) : p.roundForChoice.mode = p.mode := by
  rcases p.roundForChoice_cases with e | e <;> simp [e, Port.newRound]

/-- The arbiter's choice keeps the bounds. -/
theorem Port.Bounded.arbitrate {p : Port} (h : p.Bounded) : p.arbitrate.Bounded := by
  rcases p.arbitrate_cases with ⟨e, _⟩ | ⟨on, _, ⟨f, rest, e, r⟩ | ⟨_, r⟩⟩
  · rw [e]
    exact h
  · rw [r]
    have := h.depth3
    simp only [e, List.length_cons] at this
    exact ⟨by simp only; omega, h.depth2, h.levels1, h.depth0, by rintro _ ⟨⟩; simp, h.credits, fun x => absurd x on, h.on⟩
  · rw [r]
    exact h.roundForChoice.takeByCredit (by rwa [p.roundForChoice_mode])

/-- After the arbiter's choice, a port that is not OFF and holds a waiting frame has one in its slot (R147). -/
theorem Port.arbitrate_chosen (p : Port) : p.arbitrate.Chosen := by
  rcases p.arbitrate_cases with ⟨e, h⟩ | ⟨_, _, ⟨f, rest, _, r⟩ | ⟨hq3, r⟩⟩
  · rw [e]
    intro on empty
    exact (h.elim on (· empty)).elim
  · rw [r]
    intro _ empty
    exact nomatch empty
  · rw [r]
    have q3 : p.roundForChoice.q3 = [] := by rcases p.roundForChoice_cases with e | e <;> rw [e] <;> exact hq3
    rcases p.roundForChoice.takeByCredit_cases with ⟨_, _, _, _, r'⟩ | ⟨_, _, _, _, r'⟩ | ⟨_, _, _, _, r'⟩ | ⟨none, r'⟩ <;>
      rw [r'] <;> intro _ empty
    · exact nomatch empty
    · exact nomatch empty
    · exact nomatch empty
    · have := p.roundForChoice_eligible none
      rcases p.roundForChoice_cases with e | e <;> rw [e] <;> exact ⟨hq3, this⟩

/-! ## Offers -/

/-- An offer to an OFF port leaves all but one counter as it was. -/
theorem Port.Sound.discardOffer {p : Port} (h : p.Sound) : p.discardOffer.Sound :=
  ⟨⟨h.1.depth3, h.1.depth2, h.1.levels1, h.1.depth0, h.1.attempts, h.1.credits, h.1.off, h.1.on⟩, h.2⟩

/-- Q3 keeps its depth at a join (R142, R143). -/
theorem Port.join3_length {p : Port} (h : p.q3.length ≤ 2) (f : Frame) : (p.join3 f).q3.length ≤ 2 := by
  by_cases full : 2 ≤ p.q3.length <;> simp [Port.join3, depthOf, full] <;> omega

/-- Q2 keeps its depth at a join (R142, R143). -/
theorem Port.join2_length {p : Port} (h : p.q2.length ≤ 4) (f : Frame) : (p.join2 f).q2.length ≤ 4 := by
  by_cases full : 4 ≤ p.q2.length <;> simp [Port.join2, depthOf, full] <;> omega

/-- Q0 keeps its depth at a join (R142, R145). -/
theorem Port.join0_length {p : Port} (h : p.q0.length ≤ 16) (f : Frame) : (p.join0 f).q0.length ≤ 16 := by
  unfold Port.join0
  split
  · rename_i room
    simp only [depthOf] at room
    simp only [List.length_append, List.length_singleton]
    omega
  · exact h

/-- Q1 keeps one frame of each level at a join (R144). -/
theorem Port.join1_levels {p : Port} (h : (p.q1.map (·.level)).Nodup) (l : Level) (f : Frame) :
    ((p.join1 l f).q1.map (·.level)).Nodup := by
  by_cases held : p.q1.any (fun a => decide (a.level = l))
  · have : (fun a : LevelFrame => (if a.level = l then (⟨l, f⟩ : LevelFrame) else a).level) = (·.level) := by
      funext a
      split
      · exact (‹a.level = l›).symm
      · rfl
    simpa [Port.join1, held, Function.comp_def, this] using h
  · have absent : ∀ a ∈ p.q1, a.level ≠ l := by simpa using held
    simp only [Port.join1, held]
    simp only [Bool.false_eq_true, if_false, List.map_append, List.map_cons, List.map_nil]
    refine List.Nodup.append h (by simp) ?_
    simpa using fun a ha => absent a ha

/-- A frame offered to Q3, Q2 or Q0 leaves a sound port (R142 to R147). -/
theorem Port.Sound.offer {p : Port} (h : p.Sound) (q : PlainQueue) (f : Frame) : (p.offer q f).Sound := by
  unfold Port.offer
  split
  · exact h.discardOffer
  · rename_i on
    cases q
    · exact ⟨Port.Bounded.arbitrate ⟨Port.join3_length h.1.depth3 f, h.1.depth2, h.1.levels1, h.1.depth0, h.1.attempts, h.1.credits,
        fun x => absurd x on, h.1.on⟩, Port.arbitrate_chosen _⟩
    · exact ⟨Port.Bounded.arbitrate ⟨h.1.depth3, Port.join2_length h.1.depth2 f, h.1.levels1, h.1.depth0, h.1.attempts, h.1.credits,
        fun x => absurd x on, h.1.on⟩, Port.arbitrate_chosen _⟩
    · have depth := Port.join0_length h.1.depth0 f
      refine ⟨Port.Bounded.arbitrate ?_, Port.arbitrate_chosen _⟩
      unfold Port.join0 at depth ⊢
      split <;> rename_i room
      · exact ⟨h.1.depth3, h.1.depth2, h.1.levels1, by simpa [room] using depth, h.1.attempts, h.1.credits, fun x => absurd x on, h.1.on⟩
      · exact ⟨h.1.depth3, h.1.depth2, h.1.levels1, h.1.depth0, h.1.attempts, h.1.credits, fun x => absurd x on, h.1.on⟩

/-- An alert frame offered to Q1 leaves a sound port (R144, R146, R147). -/
theorem Port.Sound.offerAlert {p : Port} (h : p.Sound) (l : Level) (f : Frame) : (p.offerAlert l f).Sound := by
  unfold Port.offerAlert
  split
  · exact h.discardOffer
  · rename_i on
    exact ⟨Port.Bounded.arbitrate ⟨h.1.depth3, h.1.depth2, Port.join1_levels h.1.levels1 l f, h.1.depth0, h.1.attempts, h.1.credits,
      fun x => absurd x on, h.1.on⟩, Port.arbitrate_chosen _⟩

end Sys2Proof.Machine
end

