-- ==== Sys2Proof/Laws/Faults.lean ====
section
/-! SUPPORT. The fault unit's records under its shared updates, what a hand-off can do, and that the free order of the
hand-offs of one event takes each of them once. -/

namespace Sys2Proof.Machine

/-! ## Records and levels -/

/-- Two classes with one position in the records are one class. -/
theorem FaultClass.index_injective : Function.Injective FaultClass.index := by
  intro a b h
  cases a <;> cases b <;> first | rfl | exact absurd h (by decide)

/-- Every class has its place among the twelve. -/
theorem FaultClass.index_lt (c : FaultClass) : c.index < 12 := by cases c <;> decide

@[simp] theorem FaultUnit.modifyRecord_levels (u : FaultUnit) (c : FaultClass) (f : ClassRecord → ClassRecord) :
    (u.modifyRecord c f).levels = u.levels := rfl
@[simp] theorem FaultUnit.modifyRecord_capture (u : FaultUnit) (c : FaultClass) (f : ClassRecord → ClassRecord) :
    (u.modifyRecord c f).capture = u.capture := rfl
@[simp] theorem FaultUnit.modifyRecord_level (u : FaultUnit) (c : FaultClass) (f : ClassRecord → ClassRecord) (l : Level) :
    (u.modifyRecord c f).level l = u.level l := rfl
@[simp] theorem FaultUnit.modifyRecord_length (u : FaultUnit) (c : FaultClass) (f : ClassRecord → ClassRecord) :
    (u.modifyRecord c f).classes.length = u.classes.length := by simp [FaultUnit.modifyRecord]
@[simp] theorem FaultUnit.modifyLevel_classes (u : FaultUnit) (l : Level) (f : LevelRecord → LevelRecord) :
    (u.modifyLevel l f).classes = u.classes := rfl
@[simp] theorem FaultUnit.modifyLevel_capture (u : FaultUnit) (l : Level) (f : LevelRecord → LevelRecord) :
    (u.modifyLevel l f).capture = u.capture := rfl
@[simp] theorem FaultUnit.modifyLevel_record (u : FaultUnit) (l : Level) (f : LevelRecord → LevelRecord) (c : FaultClass) :
    (u.modifyLevel l f).record c = u.record c := rfl
@[simp] theorem FaultUnit.modifyLevel_length (u : FaultUnit) (l : Level) (f : LevelRecord → LevelRecord) :
    (u.modifyLevel l f).levels.length = u.levels.length := by simp [FaultUnit.modifyLevel]

/-- A changed class record is read as changed. -/
theorem FaultUnit.record_modifyRecord_same (u : FaultUnit) (c : FaultClass) (f : ClassRecord → ClassRecord)
    (h : u.classes.length = 12) : (u.modifyRecord c f).record c = f (u.record c) := by
  have : c.index < u.classes.length := h ▸ c.index_lt
  simp [FaultUnit.modifyRecord, FaultUnit.record, List.getD_eq_getElem?_getD, List.getElem?_eq_getElem this]

/-- The other class records are read as they were. -/
theorem FaultUnit.record_modifyRecord_ne (u : FaultUnit) {c d : FaultClass} (f : ClassRecord → ClassRecord) (h : d ≠ c) :
    (u.modifyRecord c f).record d = u.record d := by
  have : c.index ≠ d.index := fun e => h (FaultClass.index_injective e).symm
  simp [FaultUnit.modifyRecord, FaultUnit.record, List.getD_eq_getElem?_getD, this]

/-- A changed level record is read as changed. -/
theorem FaultUnit.level_modifyLevel_same (u : FaultUnit) (l : Level) (f : LevelRecord → LevelRecord)
    (h : u.levels.length = 4) : (u.modifyLevel l f).level l = f (u.level l) := by
  have : l.val < u.levels.length := by rw [h]; exact l.isLt
  simp [FaultUnit.modifyLevel, FaultUnit.level, List.getD_eq_getElem?_getD, List.getElem?_eq_getElem this]

/-- The other level records are read as they were. -/
theorem FaultUnit.level_modifyLevel_ne (u : FaultUnit) {l k : Level} (f : LevelRecord → LevelRecord) (h : k ≠ l) :
    (u.modifyLevel l f).level k = u.level k := by
  have : l.val ≠ k.val := fun e => h (Fin.ext e).symm
  simp [FaultUnit.modifyLevel, FaultUnit.level, List.getD_eq_getElem?_getD, this]

/-! ## Hand-offs -/

/-- A hand-off that does not matter to the marks as they stand does nothing (R158). -/
theorem FaultSide.takeHandOff_idle (env : FaultEnv) (x : FaultSide) (h : HandOff) (idle : h.matters x.unit = false) :
    x.takeHandOff env h = x := by
  cases h with
  | event c source value => exact nomatch idle
  | present c source value =>
    have : (x.unit.record c).cause = true := by simpa [HandOff.matters] using idle
    simp [FaultSide.takeHandOff, this]
  | absent c =>
    have : (x.unit.record c).cause = false := by simpa [HandOff.matters] using idle
    simp [FaultSide.takeHandOff, this]

/-- The free order takes every hand-off of the event once (R159). -/
theorem freeOrder_perm (n draw : Nat) (hs : List HandOff) : (freeOrder n draw hs).Perm hs := by
  induction n generalizing draw hs with
  | zero => exact .refl _
  | succ n ih =>
    match hs with
    | [] => exact .refl _
    | [_] => exact .refl _
    | h :: g :: rest =>
      have hk : Config.freePick draw % (rest.length + 2) < (h :: g :: rest).length := Nat.mod_lt _ (by simp)
      simp only [freeOrder]
      rw [List.getD_eq_getElem?_getD, List.getElem?_eq_getElem hk, Option.getD_some]
      exact ((ih _ _).cons _).trans (List.getElem_cons_eraseIdx_perm hk)

/-- One hand-off alone needs no choice. -/
@[simp] theorem freeOrder_one (n draw : Nat) (h : HandOff) : freeOrder n draw [h] = [h] := by cases n <;> rfl
@[simp] theorem freeOrder_nil (n draw : Nat) : freeOrder n draw [] = [] := by cases n <;> rfl

/-- The hand-offs of an event of which none matters change nothing. -/
theorem State.handOffs_idle (s : State) (hs : List HandOff) (idle : ∀ h ∈ hs, h.matters s.faults = false) :
    s.handOffs hs = s := by
  have : hs.filter (HandOff.matters s.faults) = [] := List.filter_eq_nil_iff.mpr fun h m => by simp [idle h m]
  simp [State.handOffs, this, FaultSide.takeAll]

/-- Several hand-offs of one event reach the fault unit, Port A and the count of free choices alone. -/
theorem State.handOffs_frame (s : State) (hs : List HandOff) : SameButHandOffs s (s.handOffs hs) := rfl

/-- One hand-off reaches the fault unit and Port A alone. -/
theorem State.handOff_frame (s : State) (h : HandOff) : SameButFaults s (s.handOff h) := rfl

/-! ## Port A under the fault unit -/

/-- A queued alert frame leaves Port A sound. -/
theorem FaultSide.emit_sound (env : FaultEnv) (l : Level) {x : FaultSide} (h : x.port.Sound) : (x.emit env l).port.Sound :=
  Port.Sound.offerAlert h l _

/-- An addition to a level leaves Port A sound. -/
theorem FaultSide.levelAdd_sound (env : FaultEnv) (l : Level) {x : FaultSide} (h : x.port.Sound) : (x.levelAdd env l).port.Sound :=
  FaultSide.emit_sound env l h

/-- A removal from a level leaves Port A sound. -/
theorem FaultSide.levelRemove_sound (env : FaultEnv) (l : Level) {x : FaultSide} (h : x.port.Sound) :
    (x.levelRemove env l).port.Sound := by
  unfold FaultSide.levelRemove
  split
  · exact FaultSide.emit_sound env l h
  · exact h

/-- An occurrence leaves Port A sound. -/
theorem FaultSide.occur_sound (env : FaultEnv) (c : FaultClass) (source : Source) (value : Half) {x : FaultSide}
    (h : x.port.Sound) : (x.occur env c source value).port.Sound := by
  unfold FaultSide.occur
  simp only
  split
  · exact h
  · split
    · exact h
    · exact FaultSide.levelAdd_sound env _ h

/-- A release leaves Port A sound. -/
theorem FaultSide.release_sound (env : FaultEnv) (c : FaultClass) {x : FaultSide} (h : x.port.Sound) :
    (x.release env c).port.Sound := by
  unfold FaultSide.release
  simp only
  split
  · exact FaultSide.levelRemove_sound env _ h
  · exact h

/-- A hand-off leaves Port A sound. -/
theorem FaultSide.takeHandOff_sound (env : FaultEnv) {x : FaultSide} (h : x.port.Sound) (a : HandOff) :
    (x.takeHandOff env a).port.Sound := by
  cases a with
  | event c source value => exact FaultSide.occur_sound env c source value h
  | present c source value =>
    simp only [FaultSide.takeHandOff]
    split
    · exact h
    · exact FaultSide.occur_sound env c source value h
  | absent c =>
    simp only [FaultSide.takeHandOff]
    split
    · split
      · exact FaultSide.release_sound env c h
      · exact h
    · exact h

/-! ## Port A is touched by alert frames alone -/

/-- A port is itself after no alert frame. -/
theorem Port.AlertedTo.refl (p : Port) : p.AlertedTo p := ⟨[], rfl⟩

/-- Alert frames after alert frames are alert frames. -/
theorem Port.AlertedTo.trans {p q r : Port} : p.AlertedTo q → q.AlertedTo r → p.AlertedTo r
  | ⟨fs, hf⟩, ⟨gs, hg⟩ => ⟨fs ++ gs, by rw [List.foldl_append, ← hf, hg]⟩

/-- A queued alert frame is one alert frame to Port A. -/
theorem FaultSide.emit_alerted (env : FaultEnv) (l : Level) (x : FaultSide) : x.port.AlertedTo (x.emit env l).port :=
  ⟨[(l, _)], rfl⟩

/-- An addition to a level touches Port A by its alert frame alone. -/
theorem FaultSide.levelAdd_alerted (env : FaultEnv) (l : Level) (x : FaultSide) : x.port.AlertedTo (x.levelAdd env l).port :=
  ⟨[(l, _)], rfl⟩

/-- A removal from a level touches Port A by its alert frame, if any, alone. -/
theorem FaultSide.levelRemove_alerted (env : FaultEnv) (l : Level) (x : FaultSide) :
    x.port.AlertedTo (x.levelRemove env l).port := by
  unfold FaultSide.levelRemove
  split
  · exact ⟨[(l, _)], rfl⟩
  · exact .refl _

/-- An occurrence touches Port A by alert frames alone. -/
theorem FaultSide.occur_alerted (env : FaultEnv) (c : FaultClass) (source : Source) (value : Half) (x : FaultSide) :
    x.port.AlertedTo (x.occur env c source value).port := by
  unfold FaultSide.occur
  simp only
  split
  · exact .refl _
  · split
    · exact .refl _
    · exact ⟨[(_, _)], rfl⟩

/-- A release touches Port A by alert frames alone. -/
theorem FaultSide.release_alerted (env : FaultEnv) (c : FaultClass) (x : FaultSide) :
    x.port.AlertedTo (x.release env c).port := by
  unfold FaultSide.release
  simp only
  split
  · exact FaultSide.levelRemove_alerted env _ _
  · exact .refl _

/-- A hand-off touches Port A by alert frames alone. -/
theorem FaultSide.takeHandOff_alerted (env : FaultEnv) (x : FaultSide) (a : HandOff) :
    x.port.AlertedTo (x.takeHandOff env a).port := by
  cases a with
  | event c source value => exact FaultSide.occur_alerted env c source value x
  | present c source value =>
    simp only [FaultSide.takeHandOff]
    split
    · exact .refl _
    · exact FaultSide.occur_alerted env c source value _
  | absent c =>
    simp only [FaultSide.takeHandOff]
    split
    · split
      · exact FaultSide.release_alerted env c _
      · exact .refl _
    · exact .refl _

/-- The hand-offs of one event, whatever their order, touch Port A by alert frames alone. -/
theorem FaultSide.takeAll_alerted (env : FaultEnv) (x : FaultSide) (hs : List HandOff) :
    x.port.AlertedTo (x.takeAll env hs).port := by
  unfold FaultSide.takeAll
  induction hs generalizing x with
  | nil => exact .refl _
  | cons h hs ih => exact (FaultSide.takeHandOff_alerted env x h).trans (ih _)

/-- Several hand-offs of one event reach Port A by alert frames alone. -/
theorem State.handOffs_alerted (s : State) (hs : List HandOff) : s.portA.AlertedTo (s.handOffs hs).portA :=
  FaultSide.takeAll_alerted s.faultEnv s.faultSide _

/-- One hand-off reaches Port A by alert frames alone. -/
theorem State.handOff_alerted (s : State) (h : HandOff) : s.portA.AlertedTo (s.handOff h).portA :=
  FaultSide.takeHandOff_alerted s.faultEnv s.faultSide h

end Sys2Proof.Machine
end

