-- ==== Sys2Proof/Laws/Forwarder.lean ====
section
/-! SUPPORT. What the hold timer can do, said once. -/

namespace Sys2Proof.Machine

/-- The hold timer is due exactly when it runs for a held request and has reached its hold limit (R85). -/
theorem Forwarder.holdDue_iff (f : Forwarder) :
    f.holdDue ↔ ∃ h age, f.slot = some h ∧ f.holdTimer = some age ∧ h.holdLimit ≤ age := by
  unfold Forwarder.holdDue
  split <;> simp_all

/-- Everything a hold expiry can be: nothing while the timer is not due, or the late answer of the held request (R85, R90). -/
theorem State.expireHold_cases (s : State) :
    (s.forwarder.holdDue = false ∧ s.expireHold = s) ∨
    (s.forwarder.holdDue ∧ ∃ h, s.forwarder.slot = some h ∧ s.expireHold = s.answerLate h) := by
  cases hd : s.forwarder.holdDue with
  | false => exact .inl ⟨rfl, by simp [State.expireHold, hd]⟩
  | true =>
    obtain ⟨h, age, hs, -, -⟩ := s.forwarder.holdDue_iff.1 hd
    exact .inr ⟨rfl, h, hs, by simp [State.expireHold, hd, hs]⟩

/-- Time that passes on the hold timer moves its age alone, and neither starts nor stops it (R85). -/
theorem Forwarder.elapse_frame (f : Forwarder) (steps : Nat) :
    f.elapse steps = { f with holdTimer := (f.elapse steps).holdTimer } ∧
    ((f.elapse steps).holdTimer = none ↔ f.holdTimer = none) := by
  unfold Forwarder.elapse
  split <;> simp_all

@[simp] theorem Forwarder.elapse_slot (f : Forwarder) (steps : Nat) : (f.elapse steps).slot = f.slot := by
  rw [(f.elapse_frame steps).1]
@[simp] theorem Forwarder.elapse_alive (f : Forwarder) (steps : Nat) : (f.elapse steps).alive = f.alive := by
  rw [(f.elapse_frame steps).1]
@[simp] theorem Forwarder.elapse_monitorOn (f : Forwarder) (steps : Nat) : (f.elapse steps).monitorOn = f.monitorOn := by
  rw [(f.elapse_frame steps).1]
@[simp] theorem Forwarder.elapse_counts (f : Forwarder) (steps : Nat) : (f.elapse steps).counts = f.counts := by
  rw [(f.elapse_frame steps).1]

/-- A request that has just entered or superseded is not due while its hold limit is not 0 (R85, R92). -/
theorem Forwarder.enter_not_due (f : Forwarder) {h : HeldRequest} (positive : 0 < h.holdLimit) : (f.enter h).holdDue = false := by
  simpa [Forwarder.holdDue, Forwarder.enter, Nat.pos_iff_ne_zero] using positive

/-- The step of an empty queue: a due hold expiry, or 0.1 ms (R85; log 5). -/
theorem State.idle_cases (s : State) :
    (s.forwarder.holdDue ∧ s.idle = s.expireHold) ∨ (s.forwarder.holdDue = false ∧ s.idle = s.passTenth) := by
  cases hd : s.forwarder.holdDue <;> simp [State.idle, hd]

end Sys2Proof.Machine
end

