-- ==== Sys2Proof/Laws/PerInstr.lean ====
section
/-! SUPPORT. What every command's frame has, command by command (R175, R176, R189). -/

namespace Sys2Proof.Laws

/-- A command's frame fits in eight bytes, has its code and tag, and goes out on the dash identifier only under a code that the
dash privilege permits (R175, R176). -/
def CommandFrame.Statement (i : Instr) : Prop :=
  ∀ data, encodeCommand i = some data →
    2 ≤ data.length ∧ data.length ≤ 8 ∧ (i.sender = .dash → Machine.dashPermits (dataByte data 0))

/-- A row that no command frame carries has nothing to show. -/
theorem CommandFrame.none_carried {i : Instr} (h : encodeCommand i = none) : CommandFrame.Statement i := by
  intro data hd
  rw [h] at hd
  cases hd

/-- A row that a command frame carries: its frame, that frame's length, and the dash privilege. -/
theorem CommandFrame.carried {i : Instr} {data : List Byte} (h : encodeCommand i = some data) (low : 2 ≤ data.length)
    (high : data.length ≤ 8) (dash : i.sender = .dash → Machine.dashPermits (dataByte data 0)) : CommandFrame.Statement i := by
  intro d hd
  rw [h] at hd
  cases hd
  exact ⟨low, high, dash⟩

theorem CommandFrame.powerOnReset : CommandFrame.Statement (.powerOnReset) := none_carried rfl
theorem CommandFrame.receivedFrame (port : PortId) (frame : Frame) : CommandFrame.Statement (.receivedFrame port frame) := none_carried rfl
theorem CommandFrame.policingWindowExpiry : CommandFrame.Statement (.policingWindowExpiry) := none_carried rfl
theorem CommandFrame.staleExpiry (stream : StreamId) : CommandFrame.Statement (.staleExpiry stream) := none_carried rfl
theorem CommandFrame.lostExpiry (stream : StreamId) : CommandFrame.Statement (.lostExpiry stream) := none_carried rfl
theorem CommandFrame.jobStart : CommandFrame.Statement (.jobStart) := none_carried rfl
theorem CommandFrame.leanCompletion : CommandFrame.Statement (.leanCompletion) := none_carried rfl
theorem CommandFrame.ceilingCompletion : CommandFrame.Statement (.ceilingCompletion) := none_carried rfl
theorem CommandFrame.sealStepCompletion : CommandFrame.Statement (.sealStepCompletion) := none_carried rfl
theorem CommandFrame.holdExpiry : CommandFrame.Statement (.holdExpiry) := none_carried rfl
theorem CommandFrame.startTimerExpiry : CommandFrame.Statement (.startTimerExpiry) := none_carried rfl
theorem CommandFrame.transmitArbiterChoice (port : PortId) : CommandFrame.Statement (.transmitArbiterChoice port) := none_carried rfl
theorem CommandFrame.transmitSuccess (port : PortId) : CommandFrame.Statement (.transmitSuccess port) := none_carried rfl
theorem CommandFrame.transmitFailure (port : PortId) : CommandFrame.Statement (.transmitFailure port) := none_carried rfl
theorem CommandFrame.recoveryTimerExpiry (port : PortId) : CommandFrame.Statement (.recoveryTimerExpiry port) := none_carried rfl
theorem CommandFrame.repeatTimerExpiry (level : Level) : CommandFrame.Statement (.repeatTimerExpiry level) := none_carried rfl
theorem CommandFrame.writePageEntry (tag page table index : Byte) (value : Half) : CommandFrame.Statement (.writePageEntry tag page table index value) :=
  carried rfl (by simp [bytesOf]) (by simp [bytesOf]) (fun h => nomatch h)
theorem CommandFrame.sealPage (tag page : Byte) : CommandFrame.Statement (.sealPage tag page) :=
  carried rfl (by simp) (by simp) (fun h => nomatch h)
theorem CommandFrame.unsealPage (tag page : Byte) : CommandFrame.Statement (.unsealPage tag page) :=
  carried rfl (by simp) (by simp) (fun h => nomatch h)
theorem CommandFrame.mapPage (tag slot expected new : Byte) : CommandFrame.Statement (.mapPage tag slot expected new) :=
  carried rfl (by simp) (by simp) (fun h => nomatch h)
theorem CommandFrame.writeRouteField (tag entry field : Byte) (value : Half) : CommandFrame.Statement (.writeRouteField tag entry field value) :=
  carried rfl (by simp [bytesOf]) (by simp [bytesOf]) (fun h => nomatch h)
theorem CommandFrame.enableRoute (tag entry : Byte) : CommandFrame.Statement (.enableRoute tag entry) :=
  carried rfl (by simp) (by simp) (fun h => nomatch h)
theorem CommandFrame.disableRoute (tag entry : Byte) : CommandFrame.Statement (.disableRoute tag entry) :=
  carried rfl (by simp) (by simp) (fun h => nomatch h)
theorem CommandFrame.writeChassisSetting (tag item : Byte) (value : Half) : CommandFrame.Statement (.writeChassisSetting tag item value) :=
  carried rfl (by simp [bytesOf]) (by simp [bytesOf]) (fun h => nomatch h)
theorem CommandFrame.restartGovernor (tag : Byte) : CommandFrame.Statement (.restartGovernor tag) :=
  carried rfl (by simp) (by simp) (fun h => nomatch h)
theorem CommandFrame.monitorOnOff (tag value : Byte) : CommandFrame.Statement (.monitorOnOff tag value) :=
  carried rfl (by simp) (by simp) (fun h => nomatch h)
theorem CommandFrame.clearCapture (tag : Byte) : CommandFrame.Statement (.clearCapture tag) :=
  carried rfl (by simp) (by simp) (fun h => nomatch h)
theorem CommandFrame.ackAlert (sender : Sender) (tag cls : Byte) : CommandFrame.Statement (.ackAlert sender tag cls) :=
  carried rfl (by simp) (by simp) (fun _ => rfl)
theorem CommandFrame.readPageEntry (tag page table index : Byte) : CommandFrame.Statement (.readPageEntry tag page table index) :=
  carried rfl (by simp) (by simp) (fun h => nomatch h)
theorem CommandFrame.readRouteField (tag entry field : Byte) : CommandFrame.Statement (.readRouteField tag entry field) :=
  carried rfl (by simp) (by simp) (fun h => nomatch h)
theorem CommandFrame.readChassisSetting (tag item : Byte) : CommandFrame.Statement (.readChassisSetting tag item) :=
  carried rfl (by simp) (by simp) (fun h => nomatch h)
theorem CommandFrame.readState (sender : Sender) (tag item selector part : Byte) : CommandFrame.Statement (.readState sender tag item selector part) :=
  carried rfl (by simp) (by simp) (fun _ => rfl)
theorem CommandFrame.readCounter (tag block selector counter : Byte) : CommandFrame.Statement (.readCounter tag block selector counter) :=
  carried rfl (by simp) (by simp) (fun h => nomatch h)
theorem CommandFrame.readCapture (sender : Sender) (tag : Byte) : CommandFrame.Statement (.readCapture sender tag) :=
  carried rfl (by simp) (by simp) (fun _ => rfl)
theorem CommandFrame.timeBaseAdvance : CommandFrame.Statement (.timeBaseAdvance) := none_carried rfl

end Sys2Proof.Laws
end

