-- ==== Sys2Proof/Laws/Supervisor.lean ====
section
/-! SUPPORT. What the supervisor's shared operations leave of the state, and what a received frame comes to, said once. -/

namespace Sys2Proof.Machine

/-! ## Loss of a governing stream -/

/-- A governing loss is a fall, a withdrawal, or nothing. -/
theorem State.governingLoss_cases (s : State) :
    s.governingLoss = s.fallToLimp ∨ s.governingLoss = s.withdraw ∨ s.governingLoss = s := by
  unfold State.governingLoss
  split
  · exact .inl rfl
  · split
    · exact .inr (.inl rfl)
    · exact .inr (.inr rfl)

/-- A governing loss reaches governor control and the evaluator's cut and fold mark alone. -/
theorem State.governingLoss_frame (s : State) :
    s.governingLoss = { s with governor := s.governingLoss.governor, eval := s.governingLoss.eval } ∧
    s.governingLoss.eval.published = s.eval.published ∧
    s.governingLoss.governor.wanted = s.governor.wanted ∧ s.governingLoss.governor.applied = s.governor.applied ∧
    s.governingLoss.governor.appliedPage = s.governor.appliedPage ∧
    s.governingLoss.governor.committing = s.governor.committing ∧
    s.governingLoss.governor.startTimer = s.governor.startTimer := by
  rcases s.governingLoss_cases with h | h | h <;> rw [h] <;> exact ⟨rfl, rfl, rfl, rfl, rfl, rfl, rfl⟩

/-- The owners' writes when a stream leaves the trusted states reach the estimator, the engine's void mark, governor control and
the evaluator alone, and keep what those hold besides. -/
theorem State.leaveTrusted_frame (s : State) (i : StreamId) :
    s.leaveTrusted i = { s with
      lean := (s.leaveTrusted i).lean, engine := (s.leaveTrusted i).engine
      governor := (s.leaveTrusted i).governor, eval := (s.leaveTrusted i).eval } ∧
    (s.leaveTrusted i).lean.lean = s.lean.lean ∧ (s.leaveTrusted i).eval.published = s.eval.published ∧
    (s.leaveTrusted i).governor.wanted = s.governor.wanted ∧ (s.leaveTrusted i).governor.applied = s.governor.applied ∧
    (s.leaveTrusted i).governor.appliedPage = s.governor.appliedPage := by
  have key : ∀ u : State, u.governingLoss = { u with
      lean := u.governingLoss.lean, engine := u.governingLoss.engine
      governor := u.governingLoss.governor, eval := u.governingLoss.eval } ∧
      u.governingLoss.lean.lean = u.lean.lean ∧ u.governingLoss.eval.published = u.eval.published ∧
      u.governingLoss.governor.wanted = u.governor.wanted ∧ u.governingLoss.governor.applied = u.governor.applied ∧
      u.governingLoss.governor.appliedPage = u.governor.appliedPage := by
    intro u
    rcases u.governingLoss_cases with h | h | h <;> rw [h] <;> exact ⟨rfl, rfl, rfl, rfl, rfl, rfl⟩
  cases i
  · have := key s.invalidateLean
    rcases s.invalidateLean.governingLoss_cases with h | h | h <;> simp only [State.leaveTrusted, h] <;>
      exact ⟨rfl, rfl, rfl, rfl, rfl, rfl⟩
  · exact key s
  · exact key s
  · exact ⟨rfl, rfl, rfl, rfl, rfl, rfl⟩
  · exact ⟨rfl, rfl, rfl, rfl, rfl, rfl⟩

/-- The state of a moved stream: the record replaced, and the owners' writes when it leaves the trusted states. -/
theorem State.moveStream_fst (s : State) (i : StreamId) (source : Source) (r : StreamRecord) :
    (s.moveStream i source r).1 =
      if (s.stream i).state.trusted ∧ r.state.trusted = false then (s.setStream i r).leaveTrusted i else s.setStream i r := by
  simp only [State.moveStream]
  split
  · rfl
  · split <;> rfl

/-- A moved stream whose state stays trusted, or stays untrusted and no more out than before, owes no hand-off. -/
theorem State.moveStream_same (s : State) (i : StreamId) (source : Source) (r : StreamRecord)
    (ht : r.state.trusted = (s.stream i).state.trusted) (ho : r.state.out = (s.stream i).state.out) :
    s.moveStream i source r = (s.setStream i r, []) := by
  unfold State.moveStream
  simp [ht, ho]

@[simp] theorem State.stream_leaveTrusted (s : State) (i j : StreamId) : (s.leaveTrusted i).stream j = s.stream j := by
  rw [(s.leaveTrusted_frame i).1]; cases j <;> rfl

@[simp] theorem State.port_leaveTrusted (s : State) (i : StreamId) (p : PortId) : (s.leaveTrusted i).port p = s.port p := by
  rw [(s.leaveTrusted_frame i).1]; cases p <;> rfl

@[simp] theorem State.stream_moveStream_same (s : State) (i : StreamId) (source : Source) (r : StreamRecord) :
    (s.moveStream i source r).1.stream i = r := by
  rw [State.moveStream_fst]; split <;> simp

theorem State.stream_moveStream_ne (s : State) {i j : StreamId} (source : Source) (r : StreamRecord) (h : j ≠ i) :
    (s.moveStream i source r).1.stream j = s.stream j := by
  rw [State.moveStream_fst]; split <;> simp [State.stream_setStream_ne _ _ h]

/-! ## A moved stream leaves the rest of the part, and keeps the estimate, the published ceiling, the selections and the pages -/

@[simp] theorem State.moveStream_now (s : State) (i : StreamId) (source : Source) (r : StreamRecord) : (s.moveStream i source r).1.now = s.now := by
  rw [State.moveStream_fst]; split
  · rw [(State.leaveTrusted_frame _ i).1]; cases i <;> rfl
  · cases i <;> rfl

@[simp] theorem State.moveStream_policingStart (s : State) (i : StreamId) (source : Source) (r : StreamRecord) : (s.moveStream i source r).1.policingStart = s.policingStart := by
  rw [State.moveStream_fst]; split
  · rw [(State.leaveTrusted_frame _ i).1]; cases i <;> rfl
  · cases i <;> rfl

@[simp] theorem State.moveStream_routes (s : State) (i : StreamId) (source : Source) (r : StreamRecord) : (s.moveStream i source r).1.routes = s.routes := by
  rw [State.moveStream_fst]; split
  · rw [(State.leaveTrusted_frame _ i).1]; cases i <;> rfl
  · cases i <;> rfl

@[simp] theorem State.moveStream_unknownA (s : State) (i : StreamId) (source : Source) (r : StreamRecord) : (s.moveStream i source r).1.unknownA = s.unknownA := by
  rw [State.moveStream_fst]; split
  · rw [(State.leaveTrusted_frame _ i).1]; cases i <;> rfl
  · cases i <;> rfl

@[simp] theorem State.moveStream_unknownB (s : State) (i : StreamId) (source : Source) (r : StreamRecord) : (s.moveStream i source r).1.unknownB = s.unknownB := by
  rw [State.moveStream_fst]; split
  · rw [(State.leaveTrusted_frame _ i).1]; cases i <;> rfl
  · cases i <;> rfl

@[simp] theorem State.moveStream_forwarder (s : State) (i : StreamId) (source : Source) (r : StreamRecord) : (s.moveStream i source r).1.forwarder = s.forwarder := by
  rw [State.moveStream_fst]; split
  · rw [(State.leaveTrusted_frame _ i).1]; cases i <;> rfl
  · cases i <;> rfl

@[simp] theorem State.moveStream_store (s : State) (i : StreamId) (source : Source) (r : StreamRecord) : (s.moveStream i source r).1.store = s.store := by
  rw [State.moveStream_fst]; split
  · rw [(State.leaveTrusted_frame _ i).1]; cases i <;> rfl
  · cases i <;> rfl

@[simp] theorem State.moveStream_portA (s : State) (i : StreamId) (source : Source) (r : StreamRecord) : (s.moveStream i source r).1.portA = s.portA := by
  rw [State.moveStream_fst]; split
  · rw [(State.leaveTrusted_frame _ i).1]; cases i <;> rfl
  · cases i <;> rfl

@[simp] theorem State.moveStream_portB (s : State) (i : StreamId) (source : Source) (r : StreamRecord) : (s.moveStream i source r).1.portB = s.portB := by
  rw [State.moveStream_fst]; split
  · rw [(State.leaveTrusted_frame _ i).1]; cases i <;> rfl
  · cases i <;> rfl

@[simp] theorem State.moveStream_faults (s : State) (i : StreamId) (source : Source) (r : StreamRecord) : (s.moveStream i source r).1.faults = s.faults := by
  rw [State.moveStream_fst]; split
  · rw [(State.leaveTrusted_frame _ i).1]; cases i <;> rfl
  · cases i <;> rfl

@[simp] theorem State.moveStream_commands (s : State) (i : StreamId) (source : Source) (r : StreamRecord) : (s.moveStream i source r).1.commands = s.commands := by
  rw [State.moveStream_fst]; split
  · rw [(State.leaveTrusted_frame _ i).1]; cases i <;> rfl
  · cases i <;> rfl

@[simp] theorem State.moveStream_draws (s : State) (i : StreamId) (source : Source) (r : StreamRecord) : (s.moveStream i source r).1.draws = s.draws := by
  rw [State.moveStream_fst]; split
  · rw [(State.leaveTrusted_frame _ i).1]; cases i <;> rfl
  · cases i <;> rfl

@[simp] theorem State.moveStream_tenths (s : State) (i : StreamId) (source : Source) (r : StreamRecord) : (s.moveStream i source r).1.tenths = s.tenths := by
  rw [State.moveStream_fst]; split
  · rw [(State.leaveTrusted_frame _ i).1]; cases i <;> rfl
  · cases i <;> rfl

@[simp] theorem State.moveStream_pending (s : State) (i : StreamId) (source : Source) (r : StreamRecord) : (s.moveStream i source r).1.pending = s.pending := by
  rw [State.moveStream_fst]; split
  · rw [(State.leaveTrusted_frame _ i).1]; cases i <;> rfl
  · cases i <;> rfl

@[simp] theorem State.moveStream_lean_lean (s : State) (i : StreamId) (source : Source) (r : StreamRecord) :
    (s.moveStream i source r).1.lean.lean = s.lean.lean := by
  rw [State.moveStream_fst]; split
  · rw [(State.leaveTrusted_frame _ i).2.1]; cases i <;> rfl
  · cases i <;> rfl

@[simp] theorem State.moveStream_eval_published (s : State) (i : StreamId) (source : Source) (r : StreamRecord) :
    (s.moveStream i source r).1.eval.published = s.eval.published := by
  rw [State.moveStream_fst]; split
  · rw [(State.leaveTrusted_frame _ i).2.2.1]; cases i <;> rfl
  · cases i <;> rfl

@[simp] theorem State.moveStream_governor_wanted (s : State) (i : StreamId) (source : Source) (r : StreamRecord) :
    (s.moveStream i source r).1.governor.wanted = s.governor.wanted := by
  rw [State.moveStream_fst]; split
  · rw [(State.leaveTrusted_frame _ i).2.2.2.1]; cases i <;> rfl
  · cases i <;> rfl

@[simp] theorem State.moveStream_governor_applied (s : State) (i : StreamId) (source : Source) (r : StreamRecord) :
    (s.moveStream i source r).1.governor.applied = s.governor.applied := by
  rw [State.moveStream_fst]; split
  · rw [(State.leaveTrusted_frame _ i).2.2.2.2.1]; cases i <;> rfl
  · cases i <;> rfl

@[simp] theorem State.moveStream_governor_appliedPage (s : State) (i : StreamId) (source : Source) (r : StreamRecord) :
    (s.moveStream i source r).1.governor.appliedPage = s.governor.appliedPage := by
  rw [State.moveStream_fst]; split
  · rw [(State.leaveTrusted_frame _ i).2.2.2.2.2]; cases i <;> rfl
  · cases i <;> rfl

@[simp] theorem State.route_moveStream (s : State) (i : StreamId) (source : Source) (r : StreamRecord) (j : Nat) : (s.moveStream i source r).1.route j = s.route j := by
  simp [State.route]

/-! ## A received frame -/

/-- A matched frame comes to the treatment of its entry, or is dropped over budget. -/
theorem execReceivedFrame_matched {s : State} {p : PortId} {f : Frame} {i : Nat} (h : s.Matched p f i) :
    execReceivedFrame p f s = .next ((s.setPort p (s.port p).countDelivered).matchedFrame i p f) := by
  have hl : (s.setPort p (s.port p).countDelivered).lookup p f.ident = some i := by
    cases p <;> exact h.found
  simp [execReceivedFrame, h.on, h.notForeign, State.deliver, hl]

/-- A matched frame within budget is treated on the admitted state. -/
theorem execReceivedFrame_admitted {s : State} {p : PortId} {f : Frame} {i : Nat} (h : s.Matched p f i) (hb : s.HasBudget i) :
    execReceivedFrame p f s = .next ((s.admitted p i).treat i p (s.route i).fields f) := by
  have ha : (s.route i).admits = true := by simpa [RouteEntry.admits, State.HasBudget] using hb
  rw [execReceivedFrame_matched h]
  simp only [State.matchedFrame, State.route_setPort, ha, if_true]
  rfl

/-- An admitted frame of a consuming class goes to the supervisor. -/
theorem execReceivedFrame_consuming {s : State} {p : PortId} {f : Frame} {i : Nat} {k : StreamId} (h : s.Matched p f i)
    (hb : s.HasBudget i) (hk : streamOf (s.route i).fields.cls = some k) :
    execReceivedFrame p f s = .next ((s.admitted p i).supervise k i p (s.route i).fields f) := by
  rw [execReceivedFrame_admitted h hb]
  unfold State.treat
  cases hc : (s.route i).fields.cls <;> rw [hc] at hk <;> cases hk <;> rfl

@[simp] theorem State.stream_delivered (s : State) (p : PortId) (i : StreamId) : (s.delivered p).stream i = s.stream i := by
  simp [State.delivered]

@[simp] theorem State.stream_admitted (s : State) (p : PortId) (i : Nat) (k : StreamId) :
    (s.admitted p i).stream k = s.stream k := by simp [State.admitted]

@[simp] theorem State.port_admitted (s : State) (p q : PortId) (i : Nat) :
    (s.admitted p i).port q = (s.delivered p).port q := by simp [State.admitted]

end Sys2Proof.Machine
end

