-- ==== Sys2Proof/Laws/Tables.lean ====
section
/-! SUPPORT. The tables of the part keep their lengths at every write, and a write to one of them reads back. -/

namespace Sys2Proof.Machine

/-! ## The route table (R2) -/

@[simp] theorem State.modifyRoute_length (s : State) (i : Nat) (f : RouteEntry → RouteEntry) :
    (s.modifyRoute i f).routes.length = s.routes.length := by simp [State.modifyRoute]
@[simp] theorem State.countRoute_length (s : State) (i : Nat) (f : RouteCounts → RouteCounts) :
    (s.countRoute i f).routes.length = s.routes.length := by simp [State.countRoute]

/-- A changed entry of the table is read as changed. -/
theorem State.route_modifyRoute_same (s : State) {i : Nat} (f : RouteEntry → RouteEntry) (h : i < s.routes.length) :
    (s.modifyRoute i f).route i = f (s.route i) := by
  simp [State.modifyRoute, State.route, List.getD_eq_getElem?_getD, List.getElem?_eq_getElem h]

/-- The other entries are read as they were. -/
theorem State.route_modifyRoute_ne (s : State) {i j : Nat} (f : RouteEntry → RouteEntry) (h : j ≠ i) :
    (s.modifyRoute i f).route j = s.route j := by
  simp [State.modifyRoute, State.route, List.getD_eq_getElem?_getD, h.symm]

/-- An entry that is not FREE lies in the table. -/
theorem State.lt_length_of_route {s : State} {i : Nat} (h : (s.route i).state ≠ .free) : i < s.routes.length := by
  by_contra hn
  exact h (by simp [State.route, List.getD_eq_getElem?_getD, List.getElem?_eq_none (Nat.le_of_not_lt hn), freeEntry])

/-- Every answer of the classifier to a field write or an enable keeps the length of the table. -/
theorem State.writeRoute_length (s : State) (entry field v : Nat) :
    (s.writeRoute entry field v).state.routes.length = s.routes.length := by
  unfold State.writeRoute
  repeat' split
  all_goals simp [answerPlain]
theorem State.enableRouteAt_length (s : State) (entry : Nat) :
    (s.enableRouteAt entry).state.routes.length = s.routes.length := by
  unfold State.enableRouteAt
  repeat' split
  all_goals simp [answerPlain]

/-- What lookup finds is ENABLED, with the frame's port and identifier (R2). -/
theorem State.lookup_found {s : State} {p : PortId} {id : Ident} {i : Nat} (h : s.lookup p id = some i) :
    i < s.routes.length ∧ (s.route i).state = .enabled ∧ (s.route i).fields.port = p ∧ (s.route i).fields.ident = id := by
  obtain ⟨hi, hp, _⟩ := List.findIdx?_eq_some_iff_getElem.mp h
  have : s.route i = s.routes[i] := by simp [State.route, List.getD_eq_getElem?_getD, List.getElem?_eq_getElem hi]
  rw [this]
  exact ⟨hi, by simpa using hp⟩

/-! ## Pages and their tables (R121, R122) -/

@[simp] theorem PageStore.modifyPage_length (t : PageStore) (i : Nat) (f : Page → Page) :
    (t.modifyPage i f).pages.length = t.pages.length := by simp [PageStore.modifyPage]

/-- A changed page is read as changed. -/
theorem PageStore.page_modifyPage_same (t : PageStore) {i : Nat} (f : Page → Page) (h : i < t.pages.length) :
    (t.modifyPage i f).page i = f (t.page i) := by
  simp [PageStore.modifyPage, PageStore.page, List.getD_eq_getElem?_getD, List.getElem?_eq_getElem h]

/-- The other pages are read as they were. -/
theorem PageStore.page_modifyPage_ne (t : PageStore) {i j : Nat} (f : Page → Page) (h : j ≠ i) :
    (t.modifyPage i f).page j = t.page j := by
  simp [PageStore.modifyPage, PageStore.page, List.getD_eq_getElem?_getD, h.symm]

/-- An entry written leaves the page's state and the lengths of its tables. -/
theorem Page.setEntry_frame (p : Page) (table index v : Nat) :
    (p.setEntry table index v).state = p.state ∧ (p.setEntry table index v).ceiling.length = p.ceiling.length ∧
    (p.setEntry table index v).slipTarget.length = p.slipTarget.length ∧
    (p.setEntry table index v).brake.length = p.brake.length ∧ (p.setEntry table index v).scalars.length = p.scalars.length := by
  unfold Page.setEntry
  split <;> simp

/-- An entry written keeps the shape of its page. -/
theorem Page.Shaped.setEntry {p : Page} (h : p.Shaped) (table index v : Nat) : (p.setEntry table index v).Shaped := by
  obtain ⟨_, a, b, c, d⟩ := p.setEntry_frame table index v
  exact ⟨a.trans h.1, b.trans h.2.1, c.trans h.2.2.1, d.trans h.2.2.2⟩

/-- Every answer of the page store to a page write keeps the number of pages and the map. -/
theorem State.writePage_length (s : State) (page table index v : Nat) :
    (s.writePage page table index v).state.store.pages.length = s.store.pages.length ∧
    (s.writePage page table index v).state.store.pageMap = s.store.pageMap := by
  unfold State.writePage
  repeat' split
  all_goals simp [answerPlain, PageStore.modifyPage]

/-- A slot write keeps the length of the map (R130, R131). -/
theorem State.mapPageAt_length (s : State) (slot expected new : Nat) :
    (s.mapPageAt slot expected new).state.store.pageMap.length = s.store.pageMap.length := by
  unfold State.mapPageAt
  simp only
  repeat' split
  all_goals simp [answerPlain]

/-! ## Chassis settings (R133 to R138) -/

/-- A write keeps the lengths of the bounds table, the radius rows and the alert map. -/
theorem Chassis.write_lengths {c d : Chassis} {item : ChassisItem} {v : Half} (h : c.write item v = some d) :
    d.windows.length = c.windows.length ∧ d.frontRadius.length = c.frontRadius.length ∧
    d.rearRadius.length = c.rearRadius.length ∧ d.alertMap.length = c.alertMap.length := by
  cases item with
  | unknownAction p =>
    cases p <;> simp only [Chassis.write, Option.map_eq_some_iff] at h <;> obtain ⟨_, _, rfl⟩ := h <;> simp
  | windowLower w =>
    simp only [Chassis.write] at h
    split at h
    · cases h; simp [Chassis.modifyWindow]
    · cases h
  | windowUpper w =>
    simp only [Chassis.write] at h
    split at h
    · cases h; simp [Chassis.modifyWindow]
    · cases h
  | windowStep w =>
    simp only [Chassis.write] at h
    cases h
    simp [Chassis.modifyWindow]
  | frontRadius i =>
    simp only [Chassis.write] at h
    split at h
    · cases h; simp
    · cases h
  | rearRadius i =>
    simp only [Chassis.write] at h
    split at h
    · cases h; simp
    · cases h
  | decimation =>
    simp only [Chassis.write] at h
    split at h
    · cases h; simp
    · cases h
  | vectorBase =>
    simp only [Chassis.write] at h
    split at h
    · cases h; simp
    · cases h
  | reportToA =>
    simp only [Chassis.write, Option.map_eq_some_iff] at h
    obtain ⟨_, _, rfl⟩ := h
    simp
  | alertLevel k =>
    simp only [Chassis.write, Option.map_eq_some_iff] at h
    obtain ⟨_, _, rfl⟩ := h
    simp [Chassis.modifyAlert]
  | alertMasked k =>
    simp only [Chassis.write, Option.map_eq_some_iff] at h
    obtain ⟨_, _, rfl⟩ := h
    simp [Chassis.modifyAlert]
  | alertRelease k =>
    simp only [Chassis.write, Option.map_eq_some_iff] at h
    obtain ⟨_, _, rfl⟩ := h
    simp [Chassis.modifyAlert]

end Sys2Proof.Machine
end

