-- ==== Sys2Proof/Laws/Values.lean ====
section
/-! SUPPORT. The small operations on values: saturating counters, clamps, timers, data bytes and the parts of a state read. -/

namespace Sys2Proof.Machine

/-- A counter never exceeds its maximum. -/
theorem bump_le (n : Nat) : bump n ≤ 65535 := Nat.min_le_right _ _
theorem bumpBy_le (n k : Nat) : bumpBy n k ≤ 65535 := Nat.min_le_right _ _

/-- A counter below its maximum increases by one; at its maximum it stays. -/
theorem bump_eq {n : Nat} (h : n < 65535) : bump n = n + 1 := Nat.min_eq_left h
@[simp] theorem bump_max : bump 65535 = 65535 := rfl
@[simp] theorem bumpIf_true (n : Nat) : bumpIf true n = bump n := rfl
@[simp] theorem bumpIf_false (n : Nat) : bumpIf false n = n := rfl

/-- A clamp lies in its range. -/
theorem clampInt_mem {low high : Int} (h : low ≤ high) (x : Int) : low ≤ clampInt low high x ∧ clampInt low high x ≤ high := by
  unfold clampInt
  split
  · exact ⟨Int.le_refl _, h⟩
  · split <;> omega

/-- A clamp is the larger of the lower limit and the smaller of the upper limit and the value. -/
theorem clampInt_eq {low high : Int} (h : low ≤ high) (x : Int) : clampInt low high x = max low (min high x) := by
  unfold clampInt
  split
  · omega
  · split <;> omega

/-- A value within its range is not clamped, and no other is left as it is. -/
theorem clampInt_eq_self {low high x : Int} (_ : low ≤ high) : clampInt low high x = x ↔ low ≤ x ∧ x ≤ high := by
  unfold clampInt
  split
  · omega
  · split <;> omega

/-- A timer just started is due only for a setting of 0. -/
theorem timerDue_self (now : Stamp) (setting : Nat) : timerDue now now setting = true ↔ setting = 0 := by
  simp [timerDue, ageOf]

/-- The time remaining is 0 exactly when the timer is due. -/
theorem timeRemaining_eq_zero (now start : Stamp) (setting : Nat) :
    timeRemaining now start setting = 0 ↔ timerDue now start setting = true := by
  simp [timeRemaining, timerDue, Nat.sub_eq_zero_iff_le]

/-- Bytes of a frame and of its operands. -/
@[simp] theorem dataByte_zero (b : Byte) (rest : List Byte) : dataByte (b :: rest) 0 = b := rfl
@[simp] theorem dataByte_succ (b : Byte) (rest : List Byte) (i : Nat) : dataByte (b :: rest) (i + 1) = dataByte rest i := rfl
@[simp] theorem dataByte_nil (i : Nat) : dataByte [] i = 0 := rfl
@[simp] theorem bytesOf_length (v : Half) : (bytesOf v).length = 2 := rfl

/-- The two bytes of a value give it back. -/
@[simp] theorem halfOf_bytesOf (v : Half) : halfOf (v.extractLsb' 8 8) (v.extractLsb' 0 8) = v := by
  apply BitVec.eq_of_toNat_eq
  have := v.isLt
  simp only [halfOf, BitVec.toNat_append, BitVec.extractLsb'_toNat, Nat.shiftRight_eq_div_pow]
  rw [← Nat.shiftLeft_add_eq_or_of_lt (by omega), Nat.shiftLeft_eq]
  omega

/-- The parts of a state read hold its fields in order, byte for byte (R181, R189). -/
theorem packParts_flatten (part : List Byte) (fields : List (List Byte)) :
    (packParts part fields).flatten = part ++ fields.flatten := by
  induction fields generalizing part with
  | nil => simp [packParts]
  | cons f rest ih =>
    simp only [packParts]
    split <;> simp [ih]

/-- No part is longer than five bytes, where no field is (R181). -/
theorem packParts_length {part : List Byte} {fields : List (List Byte)} (hp : part.length ≤ 5)
    (hf : ∀ f ∈ fields, f.length ≤ 5) : ∀ x ∈ packParts part fields, x.length ≤ 5 := by
  induction fields generalizing part with
  | nil => simpa [packParts] using hp
  | cons f rest ih =>
    have hrest : ∀ g ∈ rest, g.length ≤ 5 := fun g m => hf g (List.mem_cons_of_mem _ m)
    simp only [packParts]
    split
    · rename_i fits
      exact ih (by simpa using fits) hrest
    · intro x hx
      rcases List.mem_cons.mp hx with rfl | hx
      · exact hp
      · exact ih (hf f List.mem_cons_self) hrest x hx

end Sys2Proof.Machine
end

