-- ==== Sys2Proof/Tests/Slice0.lean ====
section
/-! SUPPORT. The model's own tests: well-formedness, decoding, the manual's worked cases, and for each statement that has
hypotheses a concrete state that meets them, clause by clause at the boundary values. Expected values come from the chapter named
in each comment. -/

namespace Sys2Proof.Tests

open Sys2Proof.Machine

section

/- The kernel evaluates most of these theorems. One after another they need one thread; side by side they would need one each. -/
set_option Elab.async false

/-! ## Small states -/

/-- The state a command leaves. -/
def after (c : Instr) (s : State) : State :=
  match exec c s with
  | .next t => t
  | .fault _ => s
  | .refused _ => s

/-- A frame under an identifier with seven bytes and its check byte. -/
def sent (id : Ident) (seven : List Byte) : Frame := protectedFrame id seven

/-- A stream that is FRESH with a value, stamped at 30. -/
def fresh (v : Values) : StreamRecord :=
  { unseenRecord with
    state := .fresh, latest := some v, stamp := 30, lastAlive := some 2, stepReference := some v
    staleTimer := some ⟨30, 50⟩, lostTimer := some ⟨30, 200⟩ }

/-- The same stream in STALE. -/
def stale (v : Values) : StreamRecord := { fresh v with state := .stale, staleTimer := none }

/-- A stream in LOST after seven recovery frames. -/
def lost (v : Values) : StreamRecord := { unseenRecord with state := .lost, latest := some v, stamp := 30, recovery := 7 }

/-- A held torque request of 140 Nm. -/
def held : HeldRequest := ⟨140, false, 30, 3, 10, 0x0C8⟩

/-- The reset state with a held request. -/
def holding : State :=
  { State.reset with forwarder := { resetForwarder with slot := some held, holdTimer := some 4 } }

/-- The reset state with a held request, its hold timer at an age; the hold limit is 10. -/
def heldFor (age : Nat) : State := { holding with forwarder := { holding.forwarder with holdTimer := some age } }

/-- The snapshot of the normal cornering case (04, worked cases) on page 2. -/
def cornering : CeilingSnapshot where
  lean := 3413
  valid := true
  front := ⟨.fresh, some 720⟩
  rear := ⟨.fresh, some 770⟩
  inertial := .fresh
  cut := 10
  published := 110
  state := .govern
  wanted := resetSelection
  applied := resetSelection
  appliedPage := 2
  request := some (140, false)
  frontRadius := defaultFrontRadius
  rearRadius := defaultRearRadius

/-- The entries of page 2 that the worked cases name, the others 0. -/
def page2 : Page where
  state := .sealed
  ceiling := [0, 0, 0, 0, 0, 0, 150, 120, 0, 0, 0, 0, 0]
  slipTarget := [0, 0, 0, 0, 0, 0, 80, 60, 0, 0, 0, 0, 0]
  brake := [0, 0, 0, 0, 0, 0, 110, 95, 0, 0, 0, 0, 0]
  scalars := [16, 4, 30, 8, 2, 4, 0, 0]

/-- The snapshot of the lean chapter's sample in a corner (03, worked cases). -/
def leaning (lateral : Int) : LeanSnapshot where
  sample := ⟨50, 200, lateral, 110⟩
  lean := 3400
  valid := true
  tPrev := some 100
  front := ⟨.fresh, some 720⟩
  rear := ⟨.fresh, some 770⟩
  nominalPeriod := 10
  normalGain := 16
  slideGain := 4
  slideThreshold := 30

/-- The reset state with a LEAN job running. -/
def leanRunning (isVoid : Bool) : State :=
  { State.reset with engine := { resetEngine with running := some ⟨.lean (leaning 4), isVoid⟩ } }

/-- The reset state with a CEILING job of the cornering snapshot running, committing a decision on page 0. -/
def ceilingRunning (isVoid : Bool) : State :=
  { holding with
    engine := { resetEngine with running := some ⟨.ceiling cornering, isVoid⟩ }
    governor := { resetGovernor with committing := some ⟨.govern, 0, resetSelection⟩ } }

/-- A seal of page 1 at a step, its SEAL_STEP running. -/
def sealRunning (step : Nat) : State :=
  let t := resetStore.modifyPage 1 (fun p => { p with state := .sealing })
  let s : State := { State.reset with store := { t with sealRecord := some ⟨1, step, 9⟩ } }
  { s with engine := { resetEngine with running := some ⟨.sealStep (s.sealSnapshot ⟨1, step, 9⟩), false⟩ } }

/-- A machine that rolls: both wheels report 720. -/
def rolling : State :=
  { State.reset with wheelFront := fresh (.speed 720), wheelRear := fresh (.speed 720) }

/-- Port A with a frame being sent. -/
def sending : Port := { resetPort with slot := some ⟨⟨0x7D8, [0x15]⟩, .q0, 0⟩ }

/-- Port A OFF since count 30. -/
def portOff : Port := { resetPort with mode := .off, errorCount := 255, recoveryTimer := some 30 }

/-- SEQUENCE_ERROR asserted and shown at level 0, its level ACTIVE since count 30, and the capture record locked by it. -/
def alerted : FaultUnit :=
  { resetFaults with
    classes := resetFaults.classes.set 4 ⟨true, false, .absent, 0, 1⟩
    levels := resetFaults.levels.set 0 ⟨.active, some 30, 1⟩
    capture := some ⟨.sequenceError, .route 1, 7, 30, .start, 0, false, 0⟩
    captures := 1 }

/-- One state in which every block holds something. -/
def busy : State :=
  let t := resetStore.modifyPage 1 (fun p => { p with state := .sealing })
  { State.reset with
    now := 40
    inertial := fresh (.inertial 10 20 4)
    wheelFront := { fresh (.speed 20) with rejects := 1 }
    wheelRear := { stale (.speed 30) with history := [true, false] }
    torqueRequest := fresh (.torque 140 false)
    riderSelect := lost (.selection 2 1 true)
    engine := { resetEngine with
      running := some ⟨.ceiling { cornering with state := .start, appliedPage := 0 }, false⟩, sealPending := true }
    lean := { resetLean with queue := [⟨10, 20, 4, 40⟩], lean := 3413, valid := true }
    forwarder := { resetForwarder with slot := some held, holdTimer := some 4 }
    governor := { resetGovernor with committing := some ⟨.govern, 0, resetSelection⟩ }
    store := { t with sealRecord := some ⟨1, 1, 9⟩ }
    portA := { sending with q0 := [⟨0x6E8, []⟩] }
    portB := { sending with q3 := [⟨0x0C8, []⟩], errorCount := 130, mode := .passive }
    faults := alerted
    pending := [.timeBaseAdvance] }

/-! ## Well-formedness and decoding -/

/-- A frame has at most eight data bytes (00_scope, Place in the vehicle): nine are refused, eight are not. -/
theorem test_wellFormed_refuses_nine_bytes :
    Instr.wellFormed (.receivedFrame .a ⟨0x123, [1, 2, 3, 4, 5, 6, 7, 8, 9]⟩) = false := by decide
theorem test_wellFormed_takes_eight_bytes :
    Instr.wellFormed (.receivedFrame .a ⟨0x123, [1, 2, 3, 4, 5, 6, 7, 8]⟩) = true := by decide

/-- No row of the table has bits. -/
theorem test_no_word_spells_a_command : decodeTableWord 8 0x01 = none ∧ decodeTableWord 16 0xFFFF = none := by decide

/-- Command frames written out from the operand positions of 11, R189. -/
theorem test_decode_writePageEntry :
    commandOf .service [0x01, 0x2A, 0x03, 0x00, 0x05, 0x01, 0x2C] = some (.writePageEntry 0x2A 3 0 5 300) := by decide
theorem test_decode_sealPage : commandOf .service [0x02, 0x07, 0x03] = some (.sealPage 7 3) := by decide
theorem test_decode_unsealPage : commandOf .service [0x03, 0x07, 0x03] = some (.unsealPage 7 3) := by decide
theorem test_decode_mapPage : commandOf .service [0x04, 0x07, 0x0B, 0x00, 0x03] = some (.mapPage 7 11 0 3) := by decide
theorem test_decode_writeRouteField :
    commandOf .service [0x05, 0x07, 0x09, 0x01, 0x02, 0x40] = some (.writeRouteField 7 9 1 0x240) := by decide
theorem test_decode_enableRoute : commandOf .service [0x06, 0x07, 0x09] = some (.enableRoute 7 9) := by decide
theorem test_decode_disableRoute : commandOf .service [0x07, 0x07, 0x09] = some (.disableRoute 7 9) := by decide
theorem test_decode_writeChassisSetting :
    commandOf .service [0x08, 0x07, 0x2E, 0x00, 0x04] = some (.writeChassisSetting 7 46 4) := by decide
theorem test_decode_restartGovernor : commandOf .service [0x09, 0x07] = some (.restartGovernor 7) := by decide
theorem test_decode_monitorOnOff : commandOf .service [0x0A, 0x07, 0x01] = some (.monitorOnOff 7 1) := by decide
theorem test_decode_clearCapture : commandOf .service [0x0B, 0x07] = some (.clearCapture 7) := by decide
theorem test_decode_ackAlert : commandOf .dash [0x0C, 0x07, 0x05] = some (.ackAlert .dash 7 5) := by decide
theorem test_decode_reads :
    commandOf .service [0x10, 7, 0, 3, 6] = some (.readPageEntry 7 0 3 6) ∧
    commandOf .service [0x11, 7, 3, 4] = some (.readRouteField 7 3 4) ∧
    commandOf .service [0x12, 7, 50] = some (.readChassisSetting 7 50) ∧
    commandOf .dash [0x13, 7, 6, 1, 0] = some (.readState .dash 7 6 1 0) ∧
    commandOf .service [0x14, 7, 9, 5, 0] = some (.readCounter 7 9 5 0) ∧
    commandOf .dash [0x15, 7] = some (.readCapture .dash 7) := by decide

/-- A byte beyond the frame's length is read as 0 (R175), and 0x00 names no command. -/
theorem test_decode_short_and_unknown :
    commandOf .service [0x02, 0x07] = some (.sealPage 7 0) ∧ commandOf .service [0x00, 0x07] = none ∧
    commandOf .service [0x0D, 0x07] = none ∧ commandOf .service [0x16, 0x07] = none := by decide

/-! ## The manual's worked cases -/

/-- 01, R12: identifier 0x0B2, bytes 0 to 6 summing to 501, check byte 88. 05, R95: 0x0C8, 150, check byte 161. -/
theorem test_checkByte_worked :
    checkByte 0x0B2 [100, 100, 100, 100, 100, 1, 0] = 88 ∧ checkByte 0x0C8 [100, 50, 0, 0, 0, 0, 0] = 161 := by decide

/-- 03: the sample in a corner gives 34.13 degrees; sliding, 34.07. -/
theorem test_lean_worked : (leaning 4).result.lean = 3413 ∧ (leaning 45).result.lean = 3407 := by decide +kernel

/-- 03, R54: the brake ceiling at 34.13 degrees is 75 bar on page 0 and 98 on the other page. -/
theorem test_brake_worked : readRow romPage.brake 12 3413 = 75 ∧ readRow page2.brake 12 3413 = 98 := by decide +kernel

/-- 04: normal cornering in GOVERN. -/
theorem test_cornering_worked :
    cornering.slip = some 58 ∧ cornering.slipTarget page2 = 64 ∧ cornering.leanCeiling page2 = 126 ∧
    cornering.result .govern page2 false 0 = ⟨114, 8, 58, true, true⟩ := by decide +kernel

/-- 04: wheel spin near standstill on page 0, and the evaluation after it. -/
theorem test_wheelSpin_worked :
    ({ cornering with lean := 0, front := ⟨.fresh, some 100⟩, rear := ⟨.fresh, some 300⟩, cut := 0, published := 90 } :
      CeilingSnapshot).result .govern romPage false 0 = ⟨0, 250, 1000, true, false⟩ ∧
    ({ cornering with lean := 0, front := ⟨.fresh, some 40⟩, rear := ⟨.fresh, some 300⟩, cut := 250, published := 0 } :
      CeilingSnapshot).result .govern romPage false 0 = ⟨0, 249, 0, false, false⟩ := by decide +kernel

/-- 04: LIMP at 34.13 degrees on page 0 takes the lean ceiling 56, and 60 by the rise limit when lean is not valid. -/
theorem test_limp_worked :
    ({ cornering with state := .limp, cut := 0, published := 75 } : CeilingSnapshot).result .limp romPage false 0 =
      ⟨56, 0, 58, true, false⟩ ∧
    (({ cornering with state := .limp, valid := false, cut := 0, published := 56 } : CeilingSnapshot).result .limp romPage
      false 0).published = 59 := by decide +kernel

/-- 11, R188: a level-3 frame that shows INERTIAL_LOSS and WHEEL_LOSS carries 0x00, 0x03 and 81. -/
theorem test_alertFrame_worked : alertFrame 5 3 [.inertialLoss, .wheelLoss] = ⟨0x0F0, [0x00, 0x03, 81]⟩ := by decide

/-- 11, R189: the capture record of the worked sequence of 09 as its two parts. -/
theorem test_capture_parts_worked :
    capturePart0 (some ⟨.signalImplausible, .route 1, 3100, 1000, .govern, 341, true, 2⟩) = [0x61, 3, 1, 0x0C, 0x1C] ∧
    capturePart1 (some ⟨.signalImplausible, .route 1, 3100, 1000, .govern, 341, true, 2⟩) = [0x81, 0x55, 0x03, 0xE8, 2] := by
  decide

/-- 11, R186, R188: a report of 34.1 degrees has 42 in byte 0, the first eight of the eleven bits of 341. -/
theorem test_leanReport_first_byte :
    dataByte ({ State.reset with lean := { resetLean with lean := 3413 } } : State).leanReport.data 0 = 42 := by decide

/-! ## One small step per command -/

/-- R1: the count wraps. -/
theorem test_timeBase_wraps : (after .timeBaseAdvance { State.reset with now := 65535 }).now = 0 := by decide

/-- R85: with 3 steps of the millisecond passed, its end passes the other 7, and the timer stands at its limit of 10. -/
theorem test_timeBase_hold :
    (after .timeBaseAdvance { heldFor 2 with tenths := 3 }).forwarder.holdTimer = some 9 ∧
    (after .timeBaseAdvance (heldFor 4)).forwarder.holdTimer = some 10 := by decide

/-- R85, R90: an empty queue passes 0.1 ms below the hold limit; at the limit the expiry takes place by itself. -/
theorem test_idle_step :
    (heldFor 9).idle.forwarder.holdTimer = some 10 ∧ (heldFor 10).idle.forwarder.slot = none ∧
    (heldFor 10).idle.forwarder.counts.expiryBuilt = 1 := by decide +kernel

/-- R119: C_pub is 60 after power-on reset, whatever stood before. -/
theorem test_powerOnReset : (after .powerOnReset busy).eval.published = 60 := by decide +kernel

/-- R11: a frame of seven bytes on the front wheel entry is rejected with its length as the captured value. -/
theorem test_receivedFrame_short :
    (after (.receivedFrame .a ⟨0x0B1, [0, 0, 0, 0, 0, 0, 0]⟩) State.reset).faults.capture =
      some ⟨.signalImplausible, .route 1, 7, 0, .start, 0, false, 0⟩ := by decide +kernel

/-- R8, R137: by default an unknown frame of Port B goes to Port A's queues. -/
theorem test_receivedFrame_unknown :
    (after (.receivedFrame .b ⟨0x123, [1, 2]⟩) State.reset).portA.slot = some ⟨⟨0x123, [1, 2]⟩, .q0, 0⟩ := by decide +kernel

/-- R9: a third dropped window in a row makes the stream FAULTY. -/
theorem test_policingWindow_floods :
    (after .policingWindowExpiry { (({ State.reset with now := 100 } : State).modifyRoute 4 (fun e =>
      { e with droppedMark := true, floodStreak := 2 })) with riderSelect := fresh (.selection 1 0 true) }).riderSelect.state =
      .faulty := by decide +kernel

/-- R18: FRESH to STALE at 50 ms, not at 49. -/
theorem test_staleExpiry :
    (after (.staleExpiry .wheelFront) { rolling with now := 80 }).wheelFront.state = .stale ∧
    (after (.staleExpiry .wheelFront) { rolling with now := 79 }).wheelFront.state = .fresh := by decide +kernel

/-- R19: STALE to LOST keeps the latest values and the stamp. -/
theorem test_lostExpiry :
    (after (.lostExpiry .torqueRequest) { State.reset with now := 230, torqueRequest := stale (.torque 20 false) }).torqueRequest =
      { unseenRecord with state := .lost, latest := some (.torque 20 false), stamp := 30 } := by decide +kernel

/-- R33: CEILING goes before LEAN. -/
theorem test_jobStart_ceiling_first :
    (after .jobStart { holding with
      engine := { resetEngine with ceilingPending := true }
      lean := { resetLean with queue := [⟨0, 0, 0, 0⟩] } }).engine.ceilingRunning = true := by decide +kernel

/-- R49: the completion of the worked sample writes 34.13 degrees and leaves the engine IDLE. -/
theorem test_leanCompletion :
    (after .leanCompletion (leanRunning false)).lean.lean = 3413 ∧
    (after .leanCompletion (leanRunning false)).engine.running = none := by decide +kernel

/-- R36: a void LEAN completion writes no estimate. -/
theorem test_leanCompletion_void :
    (after .leanCompletion (leanRunning true)).lean.lean = 0 ∧
    (after .leanCompletion (leanRunning true)).engine.counts.voids = 1 := by decide +kernel

/-- R75, R89: the completion answers the held request with the ceiling just written. On page 0 the lean ceiling is
56 and the slip target 31, so the cut becomes 10 + (27 x 8)/16 = 23 and C_pub 33. -/
theorem test_ceilingCompletion :
    (after .ceilingCompletion (ceilingRunning false)).eval.published = 33 ∧
    (after .ceilingCompletion (ceilingRunning false)).portB.slot.map (fun f => f.frame.data.take 2) = some [0, 33] ∧
    (after .ceilingCompletion (ceilingRunning false)).governor.state = .govern ∧
    (after .ceilingCompletion (ceilingRunning false)).forwarder.slot = none := by decide +kernel

/-- R127: a passed step 4 seals the page; a failed step opens it again. -/
theorem test_sealStepCompletion :
    ((after .sealStepCompletion (sealRunning 1)).store.sealRecord.map (·.step)) = some 2 ∧
    ((after .sealStepCompletion (sealRunning 4)).store.page 1).state = .opened := by decide +kernel

/-- R90, R94: a late command carries the smaller of 140 and C_pub 60, with INTERVENED, LATE and DEGRADED. -/
theorem test_holdExpiry :
    (after .holdExpiry (heldFor 10)).portB.slot.map (fun f => f.frame.data.take 3) = some [0, 60, 0x0D] := by decide +kernel

/-- R92: taken after an arrival that supersedes the held request, a hold expiry that was due does nothing. -/
theorem test_holdExpiry_arrival_first :
    let s := after (.receivedFrame .a (sent 0x0C0 [0, 140, 0, 0, 0, 0, 1])) (heldFor 10)
    s.forwarder.counts.superseded = 1 ∧ after .holdExpiry s = s := by decide +kernel

/-- R116, R117: after 3 s in START the part is degraded, with value 1. -/
theorem test_startTimerExpiry :
    (after .startTimerExpiry { State.reset with now := 3000 }).faults.capture =
      some ⟨.governDegraded, .absent, 1, 3000, .start, 0, false, 0⟩ := by decide +kernel

/-- R148: with its credits spent, a port begins a new round and serves Q2 first. -/
theorem test_arbiterChoice_new_round :
    (after (.transmitArbiterChoice .b) { State.reset with portB := { resetPort with
      q2 := [⟨0x0D0, []⟩], q0 := [⟨0x6E8, []⟩], credit2 := 0, credit1 := 2, credit0 := 0 } }).portB.credit2 = 3 := by
  decide +kernel

/-- R150: a success lowers the error count to a floor of 0. -/
theorem test_transmitSuccess :
    (after (.transmitSuccess .a) { State.reset with portA := { sending with errorCount := 1 } }).portA.errorCount = 0 ∧
    (after (.transmitSuccess .a) { State.reset with portA := sending }).portA.errorCount = 0 := by decide +kernel

/-- R151: the 8th failed attempt gives the frame up; at 248 the port goes OFF. -/
theorem test_transmitFailure :
    (after (.transmitFailure .a) { State.reset with portA := { sending with
      slot := some ⟨⟨0x7D8, []⟩, .q0, 7⟩ } }).portA.counts.givenUp = 1 ∧
    (after (.transmitFailure .a) { State.reset with portA := { sending with
      errorCount := 248, mode := .passive } }).portA.mode = .off := by decide +kernel

/-- R154, R172: a recovered Port A offers an empty alert frame for each level, level 3 first. -/
theorem test_recoveryTimerExpiry :
    (after (.recoveryTimerExpiry .a) { State.reset with now := 80, portA := portOff }).portA.slot =
      some ⟨⟨0x0F0, [0, 0, 80]⟩, .q1, 0⟩ := by decide +kernel

/-- R169: an ACTIVE level repeats its frame: SEQUENCE_ERROR is class 5, bit 4, in level 0. -/
theorem test_repeatTimerExpiry :
    (after (.repeatTimerExpiry 0) { State.reset with now := 230, faults := alerted }).portA.slot =
      some ⟨⟨0x0F3, [0x00, 0x10, 85]⟩, .q1, 0⟩ := by decide +kernel

/-- The first three bytes of the reply that a command leaves in Port A's slot. -/
def answer (c : Instr) (s : State) : Option (List Byte) := (after c s).portA.slot.map (fun f => f.frame.data.take 3)

/-- R123: an entry of an OPEN page is written; page 0 is not permitted (3). -/
theorem test_writePageEntry :
    answer (.writePageEntry 7 1 0 0 400) State.reset = some [0x01, 7, 0] ∧
    answer (.writePageEntry 7 0 0 0 400) State.reset = some [0x01, 7, 3] := by decide +kernel

/-- R177: while the machine moves, a W command is answered MOVING (4). -/
theorem test_writePageEntry_moving : answer (.writePageEntry 7 1 0 0 400) rolling = some [0x01, 7, 4] := by decide +kernel

/-- R125: an accepted seal makes the page SEALING and is not answered yet. -/
theorem test_sealPage :
    ((after (.sealPage 7 1) State.reset).store.page 1).state = .sealing ∧
    (after (.sealPage 7 1) State.reset).portA = resetPort := by decide +kernel

/-- R129: page 0 is not permitted (3); an OPEN page is already unsealed. -/
theorem test_unsealPage :
    answer (.unsealPage 7 0) State.reset = some [0x03, 7, 3] ∧ answer (.unsealPage 7 1) State.reset = some [0x03, 7, 0] := by
  decide +kernel

/-- R131: page 1 is not sealed (7); a slot that is not as expected conflicts (8). -/
theorem test_mapPage :
    answer (.mapPage 7 3 0 1) State.reset = some [0x04, 7, 7] ∧ answer (.mapPage 7 3 1 0) State.reset = some [0x04, 7, 8] := by
  decide +kernel

/-- R4: an ENABLED entry is in use (5), a FREE one a bad operand (2). -/
theorem test_writeRouteField :
    answer (.writeRouteField 7 0 1 5) State.reset = some [0x05, 7, 5] ∧
    answer (.writeRouteField 7 9 1 5) State.reset = some [0x05, 7, 2] := by decide +kernel

/-- R5: a claimed entry with an enabled entry's port and identifier is a duplicate (10). -/
theorem test_enableRoute :
    answer (.enableRoute 7 9) (State.reset.modifyRoute 9 (fun e =>
      { e with state := .disabled, fields := { blankFields with ident := 0x0A4 } })) = some [0x06, 7, 10] := by decide +kernel

/-- R6: a FREE entry is claimed as DISABLED. -/
theorem test_disableRoute :
    ((after (.disableRoute 7 9) State.reset).route 9).state = .disabled ∧
    ((after (.disableRoute 7 0) State.reset).route 0).state = .disabled := by decide +kernel

/-- R136, R189: item 46 is the decimation, 1 to 8. -/
theorem test_writeChassisSetting :
    (after (.writeChassisSetting 7 46 8) State.reset).store.chassis.decimation = 8 ∧
    answer (.writeChassisSetting 7 46 9) State.reset = some [0x08, 7, 2] := by decide +kernel

/-- R184: a restart at standstill answers DONE and is counted. -/
theorem test_restartGovernor :
    answer (.restartGovernor 7) State.reset = some [0x09, 7, 0] ∧
    (after (.restartGovernor 7) State.reset).commands.restarts = 1 := by decide +kernel

/-- R97: 1 turns the monitor on, 2 is a bad operand. -/
theorem test_monitorOnOff :
    (after (.monitorOnOff 7 1) State.reset).forwarder.monitorOn = true ∧
    answer (.monitorOnOff 7 2) State.reset = some [0x0A, 7, 2] := by decide +kernel

/-- R166: the capture record is unlocked. -/
theorem test_clearCapture : (after (.clearCapture 7) { State.reset with faults := alerted }).faults.capture = none := by
  decide +kernel

/-- R163: an acknowledged event is released; a class that is not asserted answers 13. -/
theorem test_ackAlert :
    ((after (.ackAlert .dash 7 5) { State.reset with faults := alerted }).faults.record .sequenceError).asserted = false ∧
    answer (.ackAlert .dash 7 5) State.reset = some [0x0C, 7, 13] := by decide +kernel

/-- The reply that a command leaves in Port A's slot. -/
def reply (c : Instr) (s : State) : Option Frame := (after c s).portA.slot.map (·.frame)

/-- R121, R124: scalar 7 of page 0 is its hard ceiling, 90, and page 0 is SEALED (2). -/
theorem test_readPageEntry :
    reply (.readPageEntry 7 0 3 7) State.reset = some ⟨0x7D8, [0x10, 7, 0, 0, 90, 2, 0, 0]⟩ := by decide +kernel

/-- R3, R183: the torque request entry's rewrite identifier is 0x0C8; an absent one reads as 0xFFFF. -/
theorem test_readRouteField :
    reply (.readRouteField 7 3 4) State.reset = some ⟨0x7D8, [0x11, 7, 0, 0x00, 0xC8, 2, 0, 0]⟩ ∧
    reply (.readRouteField 7 0 4) State.reset = some ⟨0x7D8, [0x11, 7, 0, 0xFF, 0xFF, 2, 0, 0]⟩ := by decide +kernel

/-- R134, R189: item 0 is the lower roll bound, -3000; item 8 the absent max step of lateral acceleration. -/
theorem test_readChassisSetting :
    reply (.readChassisSetting 7 0) State.reset = some ⟨0x7D8, [0x12, 7, 0, 0xF4, 0x48, 0, 0, 0]⟩ ∧
    reply (.readChassisSetting 7 8) State.reset = some ⟨0x7D8, [0x12, 7, 0, 0, 0, 0, 0, 0]⟩ := by decide +kernel

/-- R181: the time base on the dash identifier. -/
theorem test_readState :
    reply (.readState .dash 7 10 0 0) { State.reset with now := 0x1234 } =
      some ⟨0x6E8, [0x13, 7, 0, 0x12, 0x34, 0, 0, 0]⟩ := by decide +kernel

/-- R182, R185: the service received count includes the command that reads it. -/
theorem test_readCounter :
    reply (.readCounter 7 10 0 1) State.reset = some ⟨0x7D8, [0x14, 7, 0, 0, 1, 0, 0, 0]⟩ := by decide +kernel

/-- R183: an unlocked record is read as two frames, part 0 first. -/
theorem test_readCapture :
    reply (.readCapture .dash 7) State.reset = some ⟨0x6E8, [0x15, 7, 0, 0, 0, 0, 0, 0]⟩ ∧
    (after (.readCapture .dash 7) State.reset).portA.q0 = [⟨0x6E8, [0x15, 7, 0, 0x80, 0, 0, 0, 0]⟩] := by decide +kernel

/-! ## Witnesses: what the hypotheses of each statement ask for, met at concrete states

One theorem per statement, its clauses at the boundary values of their ranges. -/

/-- An entry of the ROM set is ENABLED exactly below 9. -/
theorem rom_enabled_lt {i : Nat} (h : (State.reset.route i).state = .enabled) : i < 9 := by
  by_contra hn
  rcases Nat.lt_or_ge i 48 with hi | hi
  · have : ∀ k, k < 48 → 9 ≤ k → (State.reset.route k).state = .free := by decide +kernel
    rw [this i hi (by omega)] at h
    cases h
  · rw [State.route, List.getD_eq_getElem?_getD, List.getElem?_eq_none (by simpa [State.reset, romRouteTable, romRoutes] using hi)] at h
    cases h

theorem witness_PortsKept : busy.PortsSound ∧ ∃ t, step busy = .next t :=
  ⟨⟨⟨⟨by decide, by decide, by decide, by decide, by rintro _ ⟨⟩; decide, by decide, fun h => (nomatch h), by decide⟩,
      fun _ h => (nomatch h)⟩,
    ⟨⟨by decide, by decide, by decide, by decide, by rintro _ ⟨⟩; decide, by decide, fun h => (nomatch h), by decide⟩,
      fun _ h => (nomatch h)⟩⟩, _, rfl⟩

theorem witness_RoutesKept : busy.RoutesSound ∧ ∃ t, step busy = .next t := by
  refine ⟨⟨by decide, ?_, ?_, ?_⟩, _, rfl⟩
  · intro i j h hi hj
    have key : ∀ a, a < 9 → ∀ b, b < 9 → a ≠ b → ¬((State.reset.route a).fields.port = (State.reset.route b).fields.port ∧
      (State.reset.route a).fields.ident = (State.reset.route b).fields.ident) := by decide +kernel
    exact key i (rom_enabled_lt hi) j (rom_enabled_lt hj) h
  · intro i j h hi hj
    have key : ∀ a, a < 9 → ∀ b, b < 9 → a ≠ b → (State.reset.route a).fields.cls ≠ .pass →
      (State.reset.route a).fields.cls ≠ (State.reset.route b).fields.cls := by decide +kernel
    exact key i (rom_enabled_lt hi) j (rom_enabled_lt hj) h
  · intro i hi
    have key : ∀ a, a < 9 → (State.reset.route a).fields.relationsFail = false := by decide +kernel
    exact key i (rom_enabled_lt hi)

theorem witness_StreamsKept : busy.StreamsSound ∧ ∃ t, step busy = .next t := by
  refine ⟨fun i => ?_, _, rfl⟩
  cases i <;> exact ⟨by decide, by decide, by decide, by decide, by decide, by decide⟩

theorem witness_EvaluationKept : busy.EngineSound ∧ busy.LeanSound ∧ busy.CutSound ∧ ∃ t, step busy = .next t :=
  ⟨⟨fun h => (nomatch h), by decide, by decide, by decide, fun _ _ h => (nomatch h), by decide, fun _ => .inr rfl⟩,
    ⟨by decide, by decide⟩,
    ⟨by decide, by decide, by decide, by decide, by rintro _ _ ⟨⟩; decide⟩, _, rfl⟩

theorem witness_PagesKept : busy.PagesSound ∧ ∃ t, step busy = .next t := by
  have one : ∀ i, i < 8 → (busy.store.page i).state = .sealed → i = 0 := by decide
  have two : ∀ i, i < 8 → (busy.store.page i).state = .sealing → i = 1 := by decide
  refine ⟨⟨by decide, by decide, ?_, ?_, ?_, ?_, fun _ _ h => (nomatch h), by decide, ?_, ⟨by decide, by decide⟩,
    fun _ => ⟨_, rfl, by decide, by decide⟩, by decide⟩, _, rfl⟩
  · intro i hi
    have : ∀ i, i < 8 → (busy.store.page i).ceiling.length = 13 ∧ (busy.store.page i).slipTarget.length = 13 ∧
      (busy.store.page i).brake.length = 13 ∧ (busy.store.page i).scalars.length = 8 := by decide
    exact this i hi
  · intro i hi k h1 h4
    rw [one i hi.1 hi.2]
    have : ∀ k, k < 5 → 1 ≤ k → sealScan k romPage.hardCeiling 0 none (romPage.stepTable k) = none := by decide +kernel
    exact this k (by omega) h1
  · intro i hi h
    exact ⟨_, rfl, (two i hi h).symm⟩
  · rintro _ ⟨⟩
    exact ⟨by decide, by decide, by decide, by decide, fun k _ h => absurd h (by simp only; omega)⟩
  · intro p hp
    rw [List.eq_of_mem_replicate hp]
    exact ⟨by decide, by decide⟩

theorem witness_CausesKept : busy.CausesMatch ∧ ∃ t, step busy = .next t :=
  ⟨⟨by decide, by decide, by decide, by decide, by decide, by decide, by decide⟩, _, rfl⟩

/-- The soundness of the fault unit as a check on the four levels and the twelve classes. -/
theorem faultsSound_of {s : State}
    (lengths : s.faults.classes.length = 12 ∧ s.faults.levels.length = 4 ∧ s.store.chassis.alertMap.length = 12)
    (levels : ∀ l : Level, let x := s.faults.level l
      (shownMask s.store.chassis.alertMap s.faults l ≠ [] ↔ x.phase = .active) ∧ (x.repeatTimer = none ↔ x.phase = .idle))
    (conditions : ∀ c ∈ allClasses, c.isCondition = true →
      ((s.faults.record c).cause = true → (s.faults.record c).asserted = true) ∧
      ((s.faults.record c).asserted = true → (settingOf s.store.chassis.alertMap c).release = .follow →
        (s.faults.record c).cause = true)) : s.FaultsSound := by
  refine ⟨lengths.1, lengths.2.1, lengths.2.2, fun l => ?_, fun c => conditions c (by cases c <;> decide)⟩
  obtain ⟨mask, timer⟩ := levels l
  unfold LevelSound
  split <;> rename_i h <;> simp only [h] at mask timer
  · exact ⟨by simpa using mask, by simpa using timer⟩
  · exact ⟨by simpa using mask, by simpa using timer⟩
  · exact ⟨by simpa using mask, by simpa using timer⟩

theorem busy_faultsSound : busy.FaultsSound := faultsSound_of (by decide) (by decide) (by decide)

theorem witness_AlertsKept : busy.FaultsSound ∧ ∃ t, step busy = .next t := ⟨busy_faultsSound, _, rfl⟩

/-- A step that keeps the record, and one that CLEAR_CAPTURE makes. -/
theorem witness_CaptureKept :
    busy.faults.capture = some ⟨.sequenceError, .route 1, 7, 30, .start, 0, false, 0⟩ ∧ (∃ t, step busy = .next t) ∧
    ∃ t, step { busy with pending := [.clearCapture 7] } = .next t ∧ t.faults.capture = none := ⟨rfl, ⟨_, rfl⟩, _, rfl, rfl⟩

/-! ### The step, the passing of time and the resets -/

theorem witness_TimePasses :
    State.reset.pending = [] ∧ State.reset.forwarder.slot = none ∧ State.reset.forwarder.holdTimer = none ∧
    (∀ age ∈ [9, 10], (heldFor age).pending = [] ∧ (heldFor age).forwarder.slot = some held ∧
      (heldFor age).forwarder.holdTimer = some age) ∧ 9 < held.holdLimit ∧ held.holdLimit ≤ 10 := by decide

theorem witness_PowerOnResetValues : exec .powerOnReset busy = .next { State.reset with pending := [.timeBaseAdvance] } := rfl

/-! ### Reception and the classifier -/

/-- An inertial frame whose alive counter repeats the last one. -/
def repeated : State := { State.reset with inertial := fresh (.inertial 0 0 0) }

/-- The entry of the inertial stream has used its budget of 15. -/
def overBudget : State := State.reset.modifyRoute 0 (fun e => { e with windowCount := 15 })

theorem matched_reset (f : Frame) (i : Nat) (h : State.reset.lookup .a f.ident = some i) (n : f.ident ∉ ownA) :
    State.reset.Matched .a f i := ⟨by decide, n, h⟩

theorem witness_FramesDropped :
    (({ State.reset with portA := portOff } : State).port .a).mode = .off ∧
    ((State.reset.port .b).mode ≠ .off ∧ (0x0D0 : Ident) ∈ State.reset.ownSet .b ∧ (0x7A0 : Ident) ∈ State.reset.ownSet .a) ∧
    (overBudget.Matched .a ⟨0x0A4, []⟩ 0 ∧ ¬ overBudget.HasBudget 0) ∧
    (repeated.Matched .a (sent 0x0A4 [0, 0, 0, 0, 0, 0, 2]) 0 ∧ repeated.HasBudget 0 ∧
      streamOf (repeated.route 0).fields.cls = some .inertial ∧
      judge repeated.store.chassis .inertial (repeated.stream .inertial) (repeated.route 0).fields
        (sent 0x0A4 [0, 0, 0, 0, 0, 0, 2]) = .duplicate) :=
  ⟨by decide, by decide +kernel,
    ⟨⟨by decide, by decide +kernel, by decide +kernel⟩, by unfold State.HasBudget; decide +kernel⟩,
    ⟨by decide, by decide +kernel, by decide +kernel⟩, .inr (by decide +kernel), by decide +kernel, by decide +kernel⟩

theorem witness_IdentifiersMatched :
    busy.RoutesSound ∧ (0x0C8 : Ident) ∈ busy.ownSet .b ∧ busy.lookup .b 0x2A0 = some 7 ∧ busy.lookup .a 0x2A0 = none :=
  ⟨witness_RoutesKept.1, by decide +kernel, by decide +kernel, by decide +kernel⟩

/-- Port A forwards unknown frames to Q2, and entry 7 forwards nothing. -/
def forwarding : State :=
  { (State.reset.modifyRoute 7 (fun e => { e with fields := { e.fields with forward := .nowhere } })) with
    store := { resetStore with chassis := { defaultChassis with unknownA := .forwardQ2 } } }

theorem witness_FramesForwarded :
    ((State.reset.port .a).mode ≠ .off ∧ (0x123 : Ident) ∉ State.reset.ownSet .a ∧ State.reset.lookup .a 0x123 = none ∧
      State.reset.store.chassis.unknownAction .a = .drop) ∧
    ((State.reset.port .b).mode ≠ .off ∧ (0x123 : Ident) ∉ State.reset.ownSet .b ∧ State.reset.lookup .b 0x123 = none ∧
      State.reset.store.chassis.unknownAction .b = .forwardQ0) ∧
    ((0x7FF : Ident) ∉ forwarding.ownSet .a ∧ forwarding.lookup .a 0x7FF = none ∧
      forwarding.store.chassis.unknownAction .a = .forwardQ2) ∧
    (State.reset.Matched .b ⟨0x2B0, [1]⟩ 8 ∧ State.reset.HasBudget 8 ∧ (State.reset.route 8).fields.cls = .pass ∧
      (State.reset.route 8).fields.forward = .otherQ0) ∧
    (forwarding.Matched .b ⟨0x2A0, [1]⟩ 7 ∧ forwarding.HasBudget 7 ∧ (forwarding.route 7).fields.cls = .pass ∧
      (forwarding.route 7).fields.forward = .nowhere) :=
  ⟨by decide +kernel, by decide +kernel, by decide +kernel,
    ⟨⟨by decide, by decide +kernel, by decide +kernel⟩, .inr (by decide +kernel), by decide +kernel, by decide +kernel⟩,
    ⟨by decide, by decide +kernel, by decide +kernel⟩, .inr (by decide +kernel), by decide +kernel, by decide +kernel⟩

/-- One frame for each way the checks end: 7 bytes; 8 bytes unprotected; a wrong and a right check byte; no last alive
counter, the same one, the next and a later one. -/
theorem witness_ChecksInOrder :
    let e := (State.reset.route 1).fields
    let r := fresh (.speed 100)
    let ask := fun (r : StreamRecord) (e : RouteFields) (f : Frame) => judge defaultChassis .wheelFront r e f
    let f := fun (alive : Byte) => sent 0x0B1 [0, 100, 0, 0, 0, 0, alive]
    ask r e ⟨0x0B1, [0, 100, 0, 0, 0, 0, 3]⟩ = .rejected .signalImplausible 7 ∧
    ask r { e with isProtected := false } ⟨0x0B1, [0, 100, 0, 0, 0, 0, 3, 0]⟩ = .accepted (.speed 100) false ∧
    ask r e ⟨0x0B1, [0, 100, 0, 0, 0, 0, 3, 0]⟩ = .rejected .sequenceError 0 ∧
    ask unseenRecord e (f 9) = .accepted (.speed 100) false ∧ ask r e (f 2) = .duplicate ∧
    ask r e (f 3) = .accepted (.speed 100) false ∧ ask r e (f 4) = .accepted (.speed 100) true ∧
    ask { r with lastAlive := some 15 } e (f 0) = .accepted (.speed 100) false := by decide +kernel

/-- The windows at their edges: a roll rate of 3000 passes and 3001 fails; a step of 800 passes and 801 fails; a speed of
3000 passes and 3001 fails; a torque of 251 is clamped; a mode of 4 and a load of 3 fail. -/
theorem witness_SignalChecks :
    let ask := fun (k : StreamId) (r : StreamRecord) (data : List Byte) => judgeSignals defaultChassis k r data false
    let rolled := { unseenRecord with stepReference := some (.inertial 0 0 0) }
    ask .inertial unseenRecord [0x0B, 0xB8, 0, 0, 0, 0, 0, 0] = .accepted (.inertial 3000 0 0) false ∧
    ask .inertial unseenRecord [0x0B, 0xB9, 0, 0, 0, 0, 0, 0] = .rejected .signalImplausible 3001 ∧
    ask .inertial rolled [0x03, 0x20, 0, 0, 0, 0, 0, 0] = .accepted (.inertial 800 0 0) false ∧
    ask .inertial rolled [0x03, 0x21, 0, 0, 0, 0, 0, 0] = .rejected .signalImplausible 801 ∧
    ask .inertial rolled [0, 0, 0x03, 0x21, 0, 0, 0, 0] = .rejected .signalImplausible 801 ∧
    ask .inertial rolled [0, 0, 0, 0, 0xFE, 0x6F, 0, 0] = .rejected .signalImplausible 0xFE6F ∧
    ask .wheelFront unseenRecord [0x0B, 0xB8, 0, 0, 0, 0, 0, 0] = .accepted (.speed 3000) false ∧
    ask .wheelRear unseenRecord [0x0B, 0xB9, 0, 0, 0, 0, 0, 0] = .rejected .signalImplausible 3001 ∧
    ask .torqueRequest unseenRecord [0, 250, 0, 0, 0, 0, 0, 0] = .accepted (.torque 250 false) false ∧
    ask .torqueRequest unseenRecord [0, 251, 0, 0, 0, 0, 0, 0] = .accepted (.torque 250 true) false ∧
    ask .riderSelect unseenRecord [3, 2, 1, 0, 0, 0, 0, 0] = .accepted (.selection 3 2 true) false ∧
    ask .riderSelect unseenRecord [4, 2, 1, 0, 0, 0, 0, 0] = .rejected .signalImplausible 4 ∧
    ask .riderSelect unseenRecord [3, 3, 1, 0, 0, 0, 0, 0] = .rejected .signalImplausible 3 := by decide +kernel

/-- A frame with a wrong check byte, at the reset state and for a FRESH stream at its fourth reject, in GOVERN. -/
theorem witness_FrameRejected :
    let f : Frame := ⟨0x0B1, [0, 100, 0, 0, 0, 0, 3, 0]⟩
    let s : State := { rolling with
      wheelFront := { fresh (.speed 720) with rejects := 3 }, governor := { resetGovernor with state := .govern } }
    (State.reset.Matched .a f 1 ∧ State.reset.HasBudget 1 ∧ streamOf (State.reset.route 1).fields.cls = some .wheelFront ∧
      judge State.reset.store.chassis .wheelFront State.reset.wheelFront (State.reset.route 1).fields f =
        .rejected .sequenceError 0) ∧
    (s.Matched .a f 1 ∧ s.HasBudget 1 ∧
      judge s.store.chassis .wheelFront s.wheelFront (s.route 1).fields f = .rejected .sequenceError 0) ∧
    (¬ 4 ≤ State.reset.wheelFront.rejects + 1 ∧ s.wheelFront.state = .fresh ∧ 4 ≤ s.wheelFront.rejects + 1 ∧
      s.governor.state = .govern ∧ s.faults.classes.length = 12) :=
  ⟨⟨matched_reset _ 1 (by decide +kernel) (by decide), .inr (by decide +kernel), by decide +kernel, by decide +kernel⟩,
    ⟨⟨by decide, by decide, by decide +kernel⟩, .inr (by decide +kernel), by decide +kernel⟩, by decide⟩

/-- The same for the inertial stream, which takes the estimate with it. -/
theorem witness_FrameRejected_inertial :
    let f : Frame := ⟨0x0A4, [0, 0, 0, 0, 0, 0, 3, 0]⟩
    let s : State := { State.reset with inertial := { fresh (.inertial 0 0 0) with rejects := 3 } }
    s.Matched .a f 0 ∧ s.HasBudget 0 ∧ streamOf (s.route 0).fields.cls = some .inertial ∧
    judge s.store.chassis .inertial s.inertial (s.route 0).fields f = .rejected .sequenceError 0 :=
  ⟨⟨by decide, by decide, by decide +kernel⟩, .inr (by decide +kernel), by decide +kernel, by decide +kernel⟩

/-- The third mark of the last sixteen, with two and with one before it; and the eighth recovery frame, with seven and with six
before it. -/
theorem witness_AcceptanceRecord :
    let e := (State.reset.route 1).fields
    let ask := fun (r : StreamRecord) (seq : Bool) => (r.accept e (.speed 1) 5 40 seq).state
    let marks := fun (h : List Bool) => { fresh (.speed 0) with history := h }
    ask unseenRecord true = .fresh ∧ ask (marks [true, false]) true = .fresh ∧ ask (marks [true, true]) true = .faulty ∧
    ask { marks [true, true] with state := .stale } false = .fresh ∧
    ask (marks (true :: List.replicate 14 false ++ [true])) true = .fresh ∧
    ask (lost (.speed 0)) false = .fresh ∧ ask { lost (.speed 0) with recovery := 6 } false = .lost ∧
    ask { lost (.speed 0) with state := .faulty } true = .faulty := by decide +kernel

theorem witness_WheelFrameAccepted :
    let f := sent 0x0B2 [0x02, 0xD0, 0, 0, 0, 0, 1]
    State.reset.Matched .a f 2 ∧ State.reset.HasBudget 2 ∧ streamOf (State.reset.route 2).fields.cls = some .wheelRear ∧
    judge State.reset.store.chassis .wheelRear State.reset.wheelRear (State.reset.route 2).fields f =
      .accepted (.speed 720) false :=
  ⟨matched_reset _ 2 (by decide +kernel) (by decide), .inr (by decide +kernel), by decide +kernel, by decide +kernel⟩

/-- The engine is IDLE, busy with three samples waiting, and busy with four. -/
theorem witness_InertialSampleJoins :
    let f := sent 0x0A4 [0, 50, 0, 200, 0, 4, 1]
    let x : Sample := ⟨0, 0, 0, 0⟩
    let three : State := { leanRunning false with lean := { resetLean with queue := [x, x, x] } }
    let four : State := { leanRunning false with lean := { resetLean with queue := [x, x, x, x] } }
    (∀ s ∈ [State.reset, three, four], (s.port .a).mode ≠ .off ∧ f.ident ∉ s.ownSet .a ∧ s.lookup .a f.ident = some 0 ∧
      (s.route 0).windowCount < (s.route 0).fields.budget ∧ (s.route 0).fields.cls = .inertial ∧
      judge s.store.chassis .inertial s.inertial (s.route 0).fields f = .accepted (.inertial 50 200 4) false ∧
      (s.inertial.accept (s.route 0).fields (.inertial 50 200 4) ((dataByte f.data 6).setWidth 4) s.now false).state = .fresh) ∧
    State.reset.engine.running = none ∧ State.reset.engine.ceilingPending = false ∧ State.reset.lean.queue = [] ∧
    three.engine.running ≠ none ∧ three.lean.queue.length < 4 ∧ four.engine.running ≠ none ∧ 4 ≤ four.lean.queue.length := by
  decide +kernel

/-- An IDLE engine; one that runs a CEILING job; and one that runs a LEAN job. -/
theorem witness_TorqueRequestEntersSlot :
    let f := sent 0x0C0 [0, 140, 0, 0, 0, 0, 1]
    (∀ s ∈ [State.reset, ceilingRunning false, leanRunning false], (s.port .a).mode ≠ .off ∧ f.ident ∉ s.ownSet .a ∧
      s.lookup .a f.ident = some 3 ∧ (s.route 3).windowCount < (s.route 3).fields.budget ∧
      (s.route 3).fields.cls = .torqueRequest ∧
      judge s.store.chassis .torqueRequest s.torqueRequest (s.route 3).fields f = .accepted (.torque 140 false) false) ∧
    (ceilingRunning false).engine.ceilingRunning = true ∧ (ceilingRunning false).forwarder.slot ≠ none ∧
    State.reset.engine.running = none ∧ State.reset.engine.ceilingPending = false := by decide +kernel

/-- A stream that is FRESH after the frame, and one that is LOST after it. -/
theorem witness_RiderSelectionWanted :
    let f := sent 0x1E0 [2, 1, 1, 0, 0, 0, 1]
    let late : State := { State.reset with riderSelect := { lost (.selection 1 0 true) with recovery := 0 } }
    (∀ s ∈ [State.reset, late], (s.port .a).mode ≠ .off ∧ f.ident ∉ s.ownSet .a ∧ s.lookup .a f.ident = some 4 ∧
      (s.route 4).windowCount < (s.route 4).fields.budget ∧ (s.route 4).fields.cls = .riderSelect ∧
      judge s.store.chassis .riderSelect s.riderSelect (s.route 4).fields f = .accepted (.selection 2 1 true) false) ∧
    (State.reset.riderSelect.accept (State.reset.route 4).fields (.selection 2 1 true) 1 0 false).state = .fresh ∧
    (late.riderSelect.accept (late.route 4).fields (.selection 2 1 true) 1 0 false).state = .lost := by decide +kernel

/-- The reset state at 100 ms with one entry about to flood. -/
def flooded (i : Nat) : State :=
  ({ State.reset with now := 100 } : State).modifyRoute i (fun e => { e with droppedMark := true, floodStreak := 2 })

/-- No other entry of it floods. -/
theorem flooded_alone {i : Nat} (h : i < 9) (j : Nat) (d : ((flooded i).route j).droppedMark = true) : j = i := by
  have small : ∀ i < 9, ∀ j < 48, ((flooded i).route j).droppedMark = true → j = i := by decide +kernel
  by_cases hj : j < 48
  · exact small i h j hj d
  · have long : (flooded i).routes.length = 48 := by simp [flooded, State.modifyRoute, State.reset, romRouteTable, romRoutes]
    rw [State.route, List.getD_eq_default _ _ (by omega)] at d
    exact nomatch d

/-- Not due at 99, due at 100 with no flood, and due with one entry that floods: of a FRESH, an UNSEEN and a LOST stream, and of class
PASS. -/
theorem witness_PolicingWindowExpires :
    let trusted : State := { flooded 0 with inertial := fresh (.inertial 0 0 0) }
    let out : State := { flooded 0 with inertial := lost (.inertial 0 0 0) }
    ageOf 99 State.reset.policingStart < 100 ∧ 100 ≤ ageOf 100 State.reset.policingStart ∧
    (∀ i, i < 9 → (State.reset.route i).droppedMark = false) ∧
    (∀ i ∈ [0, 8], ((flooded i).route i).state = .enabled ∧ ((flooded i).route i).droppedMark = true ∧
      2 ≤ ((flooded i).route i).floodStreak) ∧
    streamOf ((flooded 8).route 8).fields.cls = none ∧ streamOf (trusted.route 0).fields.cls = some .inertial ∧
    (trusted.stream .inertial).state.trusted = true ∧ (out.stream .inertial).state.trusted = false ∧
    ((flooded 0).stream .inertial).state = .unseen ∧ (flooded 0).faults.classes.length = 12 := by decide +kernel

/-- A stale timer of 50 at 49 and 50 ms, a lost timer of 200 at 199 and 200 ms, each stream, with the state GOVERN; and in START with a
job that is about to commit GOVERN, its fold mark clear and set, and with no job. -/
theorem witness_StreamAges :
    let old := fun (v : Values) => stale v
    (fresh (.speed 1)).state = .fresh ∧ (fresh (.speed 1)).staleTimer = some ⟨30, 50⟩ ∧ 50 ≤ ageOf 80 30 ∧ ageOf 79 30 < 50 ∧
    (old (.speed 1)).state = .stale ∧ (old (.speed 1)).lostTimer = some ⟨30, 200⟩ ∧ 200 ≤ ageOf 230 30 ∧ ageOf 229 30 < 200 ∧
    (∀ k ∈ [StreamId.inertial, .wheelFront, .torqueRequest],
      ((({ leanRunning false with now := 230, governor := { resetGovernor with state := .govern } } : State).setStream k
        (old (.speed 1))).stream k).state = .stale) ∧
    (let s : State := { ceilingRunning false with now := 230, wheelFront := old (.speed 1) }
     let folded : State := { s with eval := { resetEvaluator with fold := true } }
     s.governor.state ≠ .govern ∧ s.engine.ceilingRunning = true ∧ s.eval.fold = false ∧
     s.governor.committing = some ⟨.govern, 0, resetSelection⟩ ∧ folded.eval.fold = true ∧
     ({ s with engine := resetEngine } : State).engine.ceilingRunning = false) := by decide +kernel

/-! ### The evaluation engine -/

/-- Something of each kind is pending, and then nothing. -/
theorem witness_EngineChoice :
    let ceiling : State := { holding with engine := { resetEngine with ceilingPending := true } }
    let lean : State := { State.reset with lean := { resetLean with queue := [⟨50, 200, 4, 0⟩] } }
    let sealing : State := { sealRunning 1 with engine := { resetEngine with sealPending := true } }
    (leanRunning false).engine.running ≠ none ∧
    (ceiling.engine.running = none ∧ ceiling.engine.ceilingPending = true) ∧
    (lean.engine.running = none ∧ lean.engine.ceilingPending = false ∧ lean.lean.queue = [⟨50, 200, 4, 0⟩] ∧
      lean.enabledOf .inertial = some 0) ∧
    (sealing.engine.running = none ∧ sealing.engine.ceilingPending = false ∧ sealing.lean.queue = [] ∧
      sealing.engine.sealPending = true ∧ sealing.store.sealRecord = some ⟨1, 1, 9⟩) ∧
    (State.reset.engine.running = none ∧ State.reset.engine.ceilingPending = false ∧ State.reset.lean.queue = [] ∧
      State.reset.engine.sealPending = false) := by decide +kernel

theorem witness_VoidCompletionWritesNothing :
    (leanRunning true).engine.running = some ⟨.lean (leaning 4), true⟩ ∧
    (ceilingRunning true).engine.running = some ⟨.ceiling cornering, true⟩ ∧
    (leanRunning false).engine.running = some ⟨.lean (leaning 4), false⟩ ∧
    (ceilingRunning false).engine.running = some ⟨.ceiling cornering, false⟩ ∧
    (sealRunning 1).engine.running = some ⟨.sealStep ((sealRunning 1).sealSnapshot ⟨1, 1, 9⟩), false⟩ ∧
    (sealRunning 1).store.sealRecord = some ⟨1, 1, 9⟩ := by decide

/-! ### Lean estimation -/

/-- The front speed, the rear speed and no speed; a speed of 99 and of 100; an index c at its clamp of 300. -/
theorem witness_LeanJobArithmetic :
    (leaning 4).referenceSpeed = some 720 ∧
    ({ leaning 4 with front := ⟨.lost, some 720⟩, rear := ⟨.stale, some 99⟩ } : LeanSnapshot).referenceSpeed = some 99 ∧
    ({ leaning 4 with front := ⟨.lost, some 720⟩, rear := ⟨.faulty, some 99⟩ } : LeanSnapshot).referenceSpeed = none ∧
    referenceLean 200 99 = 0 ∧ referenceLean 2023 300 = 7157 ∧ referenceLean (-2023) 300 = -7157 := by decide +kernel

/-- A completion with no report due, and one with a report due; N is 2. -/
theorem witness_LeanCompletion :
    let due : State := { leanRunning false with lean := { resetLean with decimation := 1 } }
    (leanRunning false).engine.running = some ⟨.lean (leaning 4), false⟩ ∧
    (leanRunning false).lean.decimation + 1 < (leanRunning false).store.chassis.decimation ∧
    due.engine.running = some ⟨.lean (leaning 4), false⟩ ∧ due.store.chassis.decimation ≤ due.lean.decimation + 1 := by
  decide +kernel

/-- Below, at and beyond the last breakpoint of a row of 13. -/
theorem witness_RowReadBetweenNeighbours :
    5999 / 500 < 12 ∧ 12 ≤ 6000 / 500 ∧ 12 ≤ 6500 / 500 ∧ readRow romPage.brake 12 5999 = 33 ∧
    readRow romPage.brake 12 6000 = 32 ∧ readRow romPage.brake 12 6500 = 32 ∧ readRow romPage.brake 12 500 = 155 := by
  decide +kernel

/-! ### Slip, cut and ceiling -/

/-- A corrected front speed of 49 and of 50 at an upright lean; slip at its target and above it; a stream that is out. -/
theorem witness_CeilingArithmetic :
    let at_ := fun (f r : Nat) => ({ cornering with lean := 0, front := ⟨.fresh, some f⟩, rear := ⟨.stale, some r⟩ } : CeilingSnapshot)
    (at_ 49 60).slip = none ∧ (at_ 50 60).slip = some 200 ∧ (at_ 1000 1060).slip = some 60 ∧
    (at_ 1000 1060).newCut .govern romPage = 9 ∧ (at_ 1000 1062).newCut .govern romPage = 11 ∧
    ({ cornering with rear := ⟨.lost, some 770⟩ } : CeilingSnapshot).slip = none := by decide +kernel

/-- With the fold mark clear and set, the slot full and empty. -/
theorem witness_CeilingCompletion :
    let s := ceilingRunning false
    let folded : State := { s with eval := { resetEvaluator with fold := true }, forwarder := resetForwarder }
    (s.engine.running = some ⟨.ceiling cornering, false⟩ ∧ s.governor.committing = some ⟨.govern, 0, resetSelection⟩ ∧
      s.eval.fold = false ∧ s.forwarder.slot = some held) ∧
    (folded.engine.running = some ⟨.ceiling cornering, false⟩ ∧
      folded.governor.committing = some ⟨.govern, 0, resetSelection⟩ ∧ folded.eval.fold = true ∧
      folded.forwarder.slot = none) := by decide +kernel

/-! ### Governor control -/

/-- A lean of 1000 and a request of 20 are safe; a lean of 1001, or a request of 21, is not. -/
theorem witness_DecisionFormed :
    let s := fun (lean : Int) (request : Nat) (traction : Bool) => ({ State.reset with
      engine := { resetEngine with ceilingPending := true }
      lean := { resetLean with lean := lean, valid := true }
      inertial := fresh (.inertial 0 0 0), wheelFront := fresh (.speed 720), wheelRear := fresh (.speed 720)
      forwarder := { resetForwarder with slot := some { held with request := request }, holdTimer := some 0 }
      governor := { resetGovernor with wanted := ⟨1, 0, traction⟩ } } : State)
    (s 1000 20 true).engine.running = none ∧ (s 1000 20 true).engine.ceilingPending = true ∧
    (s (-1000) 20 true).ceilingSnapshot.safePoint = true ∧ (s 1001 20 true).ceilingSnapshot.safePoint = false ∧
    (s 1000 21 true).ceilingSnapshot.safePoint = false ∧ (s 1000 20 true).ceilingSnapshot.inputsReady = true ∧
    (s 1000 20 false).governor.wanted.traction = false := by decide +kernel

/-- A decision committed as it stands, and withdrawn; the START timer at 2999 and 3000 ms. -/
theorem witness_DecisionCommitted :
    let s := ceilingRunning false
    let withdrawn : State := { s with
      governor := { s.governor with withdrawn := true }, eval := { resetEvaluator with fold := true } }
    s.engine.running = some ⟨.ceiling cornering, false⟩ ∧ s.governor.committing = some ⟨.govern, 0, resetSelection⟩ ∧
    s.engine.ceilingPending = false ∧ withdrawn.engine.running = some ⟨.ceiling cornering, false⟩ ∧
    withdrawn.governor.withdrawn = true ∧ withdrawn.engine.ceilingPending = false ∧
    State.reset.governor.state = .start ∧ State.reset.governor.startTimer = .running 0 ∧ ageOf 2999 0 < 3000 ∧
    3000 ≤ ageOf 3000 0 := by decide +kernel

theorem witness_GovernEnteredAtCompletion :
    let s : State := { State.reset with governor := { resetGovernor with state := .govern } }
    Instr.timeBaseAdvance ≠ .ceilingCompletion ∧ exec .timeBaseAdvance s = .next { s with now := 1 } ∧
    ({ s with now := 1 } : State).governor.state = .govern := ⟨by decide, rfl, rfl⟩

/-! ### Torque forwarding -/

/-- The hold timer at its limit, below it, and stopped. -/
theorem witness_HoldExpiryAnswersLate :
    (∀ age ∈ [9, 10], (heldFor age).forwarder.slot = some held ∧ (heldFor age).forwarder.holdTimer = some age) ∧
    9 < held.holdLimit ∧ held.holdLimit ≤ 10 ∧ State.reset.forwarder.slot = none ∧
    State.reset.forwarder.holdTimer = none := by decide

/-! ### Transmission -/

/-- Q3; each of Q2, Q1 and Q0 at a credit of 1, its betters empty or at 0; every credit spent; nothing waiting; OFF and a slot
that is taken. -/
theorem witness_ArbiterChoice :
    let f : Frame := ⟨0x7D8, []⟩
    let a : LevelFrame := ⟨3, f⟩
    let ask := fun (q : Port) => (after (.transmitArbiterChoice .a) { State.reset with portA := q }).portA
    let all := { resetPort with q3 := [f], q2 := [f], q1 := [a], q0 := [f] }
    (portOff.mode = .off ∧ sending.slot ≠ none ∧ all.mode ≠ .off ∧ all.slot = none) ∧
    (ask all).slot = some ⟨f, .q3, 0⟩ ∧
    (ask { all with q3 := [], credit2 := 1 }).slot = some ⟨f, .q2, 0⟩ ∧
    (ask { all with q3 := [], credit2 := 0, credit1 := 1 }).slot = some ⟨f, .q1, 0⟩ ∧
    (ask { all with q3 := [], credit2 := 0, credit1 := 0, credit0 := 1 }).slot = some ⟨f, .q0, 0⟩ ∧
    (ask { all with q3 := [], credit2 := 0, credit1 := 0, credit0 := 0 }).slot = some ⟨f, .q2, 0⟩ ∧
    (ask resetPort).slot = none := by decide +kernel

/-- Each queue with room for one more and full; Q1 with and without a frame of the level. -/
theorem witness_OffersToQueues :
    let f : Frame := ⟨0x7D8, []⟩
    let a : LevelFrame := ⟨3, f⟩
    (portOff.mode = .off) ∧ (sending.mode ≠ .off ∧ sending.slot ≠ none) ∧
    ({ sending with q3 := [f] }.q3.length < 2 ∧ 2 ≤ { sending with q3 := [f, f] }.q3.length) ∧
    ({ sending with q2 := [f, f, f] }.q2.length < 4 ∧ 4 ≤ { sending with q2 := [f, f, f, f] }.q2.length) ∧
    ({ sending with q0 := List.replicate 15 f }.q0.length < 16 ∧ 16 ≤ { sending with q0 := List.replicate 16 f }.q0.length) ∧
    ((∀ b ∈ { sending with q1 := [a] }.q1, b.level ≠ 2) ∧ { sending with q1 := [a] }.q1 = [] ++ a :: [] ∧ a.level = 3) ∧
    (resetPort.mode ≠ .off ∧ resetPort.slot = none ∧ resetPort.q3 = [] ∧ resetPort.q2 = [] ∧ resetPort.q1 = [] ∧
      resetPort.q0 = []) := by decide +kernel

/-- A streak of 2 and of 3 at a success; at a failure, a count of 247 and 248, a seventh and an eighth failed attempt, and a
streak of 2. -/
theorem witness_AttemptEnds :
    let p := fun (errors streak failed : Nat) => { sending with
      errorCount := errors, giveUpStreak := streak, slot := some ⟨⟨0x7D8, []⟩, .q0, failed⟩ }
    ((p 0 2 0).mode ≠ .off ∧ (p 0 2 0).giveUpStreak < 3 ∧ 3 ≤ (p 0 3 0).giveUpStreak) ∧
    (248 ≤ (p 248 0 0).errorCount ∧ (p 247 0 0).errorCount < 248) ∧
    ((p 0 0 6).slot = some ⟨⟨0x7D8, []⟩, .q0, 6⟩ ∧ 6 + 1 < 8 ∧ (p 0 2 7).slot = some ⟨⟨0x7D8, []⟩, .q0, 7⟩ ∧ 8 ≤ 7 + 1 ∧
      (p 0 2 7).giveUpStreak = 2 ∧ (p 0 1 7).giveUpStreak ≠ 2) ∧
    portOff.mode = .off ∧ resetPort.slot = none := by decide

/-- The same with either port OFF since 30, at 79 and at 80. -/
theorem witness_PortRecovers :
    let s : State := { busy with now := 80, portA := portOff, portB := portOff }
    s.FaultsSound ∧ (s.port .a).mode = .off ∧ (s.port .b).mode = .off ∧ (s.port .a).recoveryTimer = some 30 ∧
    (s.port .b).recoveryTimer = some 30 ∧ 50 ≤ ageOf s.now 30 ∧ ageOf 79 30 < 50 ∧
    (s.faults.level 0).phase = .active ∧ (s.faults.level 1).phase = .idle :=
  ⟨⟨busy_faultsSound.classes, busy_faultsSound.levels, busy_faultsSound.map, busy_faultsSound.level, busy_faultsSound.condition⟩,
    by decide +kernel⟩

/-! ### Faults and alerts -/

/-- The highest vector base, with a class shown and with none. -/
theorem witness_AlertFrameFields :
    (15 : Nat) ≤ 15 ∧ shownMask defaultAlertMap alerted 0 = [.sequenceError] ∧ shownMask defaultAlertMap alerted 1 = [] ∧
    (∀ d ∈ shownMask defaultAlertMap alerted 0, FaultClass.sequenceError.number ≤ d.number) := by decide +kernel

/-- The timer of level 0 at 229 and at 230, its level ACTIVE; a CLOSING level. -/
theorem witness_RepeatTimerExpires :
    busy.FaultsSound ∧ (busy.faults.level 0).repeatTimer = some 30 ∧ 200 ≤ ageOf 230 30 ∧ ageOf 229 30 < 200 ∧
    (busy.faults.level 0).phase = .active ∧
    ({ busy with faults := { resetFaults with levels := resetFaults.levels.set 1 ⟨.closing, some 30, 2⟩ } } : State).FaultsSound :=
  ⟨busy_faultsSound, by decide, by decide, by decide, by decide, faultsSound_of (by decide) (by decide) (by decide)⟩

/-- An asserted event, a released shown one, a released masked condition, a locked and an unlocked record; a condition whose cause
is absent, and one whose cause is present. -/
theorem witness_HandOffTaken :
    let s : State := { busy with faults := { resetFaults with
      classes := resetFaults.classes.set 11 ⟨true, true, .port .a, 255, 1⟩ } }
    busy.FaultsSound ∧ s.FaultsSound ∧ (busy.faults.record .sequenceError).asserted = true ∧
    (busy.faults.record .streamFlood).asserted = false ∧ (settingOf busy.store.chassis.alertMap .streamFlood).masked = false ∧
    (busy.faults.record .portAFault).asserted = false ∧ (settingOf busy.store.chassis.alertMap .portAFault).masked = true ∧
    busy.faults.capture ≠ none ∧ s.faults.capture = none ∧ FaultClass.portAFault.isCondition = true ∧
    (busy.faults.record .portAFault).cause = false ∧ (s.faults.record .portAFault).cause = true :=
  ⟨busy_faultsSound, faultsSound_of (by decide) (by decide) (by decide), by decide +kernel⟩

/-- Classes 0, 1, 12 and 13; an event asserted; a FOLLOW condition asserted; a LATCHED condition asserted with its cause present and
with its cause absent. -/
theorem witness_AlertAcknowledged :
    let map := (defaultChassis.modifyAlert .wheelLoss (fun a => { a with release := .latched })).alertMap
    let s : State := { busy with
      store := { resetStore with chassis := { defaultChassis with alertMap := map } }
      faults := { resetFaults with
        classes := ((resetFaults.classes.set 4 ⟨true, false, .absent, 0, 1⟩).set 11 ⟨true, true, .port .a, 255, 1⟩).set 1
          ⟨true, true, .route 1, 1, 1⟩
        levels := (resetFaults.levels.set 0 ⟨.active, some 30, 1⟩).set 3 ⟨.active, some 30, 1⟩ } }
    let t : State := { s with faults := s.faults.modifyRecord .wheelLoss (fun r => { r with cause := false }) }
    s.FaultsSound ∧ t.FaultsSound ∧ FaultClass.inertialLoss.number = 1 ∧ FaultClass.portAFault.number = 12 ∧
    (s.faults.record .sequenceError).asserted = true ∧ FaultClass.sequenceError.isCondition = false ∧
    (s.faults.record .inertialLoss).asserted = false ∧
    (s.faults.record .portAFault).asserted = true ∧ (settingOf map .portAFault).release = .follow ∧
    (s.faults.record .wheelLoss).asserted = true ∧ (settingOf map .wheelLoss).release = .latched ∧
    (s.faults.record .wheelLoss).cause = true ∧ (t.faults.record .wheelLoss).cause = false :=
  ⟨faultsSound_of (by decide) (by decide) (by decide), faultsSound_of (by decide) (by decide) (by decide), by decide +kernel⟩

/-! ### Replies, the gate and the command frames -/

theorem witness_ReplyOffered : ([1, 2, 3, 4, 5] : List Byte).length ≤ 5 := by decide

/-- A wheel at 31 moves, at 30 it does not; UNSEEN wheels stand still; a torque of 21 is not quiet. -/
theorem witness_MovingRefused :
    let s := fun (v : Nat) (t : Nat) => ({ State.reset with
      wheelFront := fresh (.speed v), wheelRear := stale (.speed 30), torqueRequest := fresh (.torque t false) } : State)
    State.reset.standstill = true ∧ (s 30 20).standstill = true ∧ (s 31 20).standstill = false ∧
    (s 30 21).standstill = false ∧ rolling.standstill = false := by decide +kernel

/-- A frame of one byte, a dash frame whose code is not permitted, a code that names no command, and SEAL PAGE. -/
theorem witness_CommandFrameTaken :
    State.reset.Matched .a ⟨0x7D0, [0x02]⟩ 6 ∧ State.reset.Matched .a ⟨0x6E0, [0x02, 7]⟩ 5 ∧
    State.reset.Matched .a ⟨0x7D0, [0x16, 7]⟩ 6 ∧ State.reset.Matched .a ⟨0x7D0, [0x02, 7, 1]⟩ 6 ∧
    State.reset.HasBudget 5 ∧ State.reset.HasBudget 6 ∧ (State.reset.route 5).fields.cls = .dashCommand ∧
    (State.reset.route 6).fields.cls = .serviceCommand ∧ commandOf .service [0x16, 7] = none ∧
    commandOf .service [0x02, 7, 1] = some (.sealPage 7 1) :=
  ⟨matched_reset _ 6 (by decide +kernel) (by decide), matched_reset _ 5 (by decide +kernel) (by decide),
    matched_reset _ 6 (by decide +kernel) (by decide), matched_reset _ 6 (by decide +kernel) (by decide),
    .inr (by decide +kernel), .inr (by decide +kernel), by decide +kernel, by decide +kernel, by decide, by decide⟩

theorem witness_CommandFrameRoundTrip :
    encodeCommand (.writePageEntry 0x2A 3 0 5 300) = some [0x01, 0x2A, 3, 0, 5, 0x01, 0x2C] ∧
    encodeCommand (.readState .dash 7 6 1 0) = some [0x13, 7, 6, 1, 0] ∧ encodeCommand .jobStart = none := by decide

/-! ### The page store's commands -/

/-- `busy` stands still but for its torque request; with that stream UNSEEN it stands. -/
def resting : State := { busy with torqueRequest := unseenRecord }

theorem resting_pagesSound : resting.PagesSound :=
  let h := witness_PagesKept.1
  ⟨h.length, h.rom, h.shaped, h.passed, h.sealing, h.record, h.running, h.mapLength, h.mapped, h.applied, h.committing, h.published⟩

/-- Pages 7 and 8; table 3 at indices 7 and 8; page 0; a SEALING page; an OPEN page; values at and beyond a range. -/
theorem witness_PageEntryWritten :
    resting.standstill = true ∧ resting.PagesSound ∧ entryInRange 7 3 7 = true ∧ entryInRange 7 3 8 = false ∧
    entryInRange 8 0 0 = false ∧ entryInRange 7 2 12 = true ∧ (resting.store.page 1).state = .sealing ∧
    (resting.store.page 7).state = .opened ∧ entryValueOk 3 2 10 = true ∧ entryValueOk 3 2 9 = false ∧
    entryValueOk 0 12 400 = true ∧ entryValueOk 0 12 401 = false :=
  ⟨by decide +kernel, resting_pagesSound, by decide +kernel⟩

/-- A page that is SEALED: reached with page 2 made SEALED by hand. -/
def twoSealed : State := { State.reset with store := resetStore.modifyPage 2 (fun _ => { romPage with state := .sealed }) }

theorem witness_SealedPageRefusesWrite :
    twoSealed.standstill = true ∧ (twoSealed.store.page 2).state = .sealed ∧
    answer (.writePageEntry 7 2 0 0 400) twoSealed = some [0x01, 7, 5] := by decide +kernel

/-- Steps 1 and 4; a step that passes, and each of the three reasons. -/
theorem witness_SealStepChecks :
    (SealSnapshot.outcome ⟨0, 1, [90, 90, 88], 90⟩ = none ∧ SealSnapshot.outcome ⟨1, 1, [401], 400⟩ = some (0, .range)) ∧
    SealSnapshot.outcome ⟨1, 1, [90, 91], 90⟩ = some (1, .bound) ∧ SealSnapshot.outcome ⟨1, 3, [90, 91], 0⟩ = some (1, .order) ∧
    SealSnapshot.outcome ⟨1, 4, [8, 2, 30, 8, 1, 3, 91, 90], 90⟩ = some (6, .bound) ∧
    SealSnapshot.outcome ⟨1, 4, [8, 2, 30, 8, 1, 3, 90, 90], 90⟩ = none := by decide +kernel

/-- SEAL PAGE of page 8, a SEALED page, a record that is taken, an OPEN page with the record free; steps 1, 3 and 4: page 1's blank
tables pass steps 1 to 3 and fail step 4 in the range of its scalar 2. -/
theorem witness_SealRuns :
    State.reset.standstill = true ∧ 7 < (8 : Byte).toNat ∧ (State.reset.store.page 0).state = .sealed ∧
    (resting.standstill = true ∧ (resting.store.page 7).state ≠ .sealed ∧ resting.store.sealRecord ≠ none) ∧
    (State.reset.store.page 7).state = .opened ∧ State.reset.store.sealRecord = none ∧
    ((sealRunning 1).store.sealRecord = some ⟨1, 1, 9⟩ ∧ ((sealRunning 1).sealSnapshot ⟨1, 1, 9⟩).outcome = none) ∧
    ((sealRunning 3).store.sealRecord = some ⟨1, 3, 9⟩ ∧ ((sealRunning 3).sealSnapshot ⟨1, 3, 9⟩).outcome = none) ∧
    ((sealRunning 4).sealSnapshot ⟨1, 4, 9⟩).outcome = some (2, .range) ∧
    (SealSnapshot.outcome ⟨1, 4, romPage.scalars, 90⟩ = none) ∧
    (sealRunning 4).engine.running = some ⟨.sealStep ((sealRunning 4).sealSnapshot ⟨1, 4, 9⟩), false⟩ := by decide +kernel

/-- UNSEAL PAGE of pages 8, 0, an OPEN, a SEALING, a SEALED one that is in use and one that is not; MAP PAGE with slot 11 and 12, a
page that is not SEALED, a conflict and a change. -/
theorem witness_PagesUnsealedAndMapped :
    let used : State := { twoSealed with store := { twoSealed.store with pageMap := (List.replicate 12 0).set 11 2 } }
    State.reset.standstill = true ∧ twoSealed.standstill = true ∧ used.standstill = true ∧ resting.standstill = true ∧
    7 < (8 : Byte).toNat ∧ (State.reset.store.page 1).state = .opened ∧ (resting.store.page 1).state = .sealing ∧
    (twoSealed.store.page 2).state = .sealed ∧ twoSealed.pageInUse 2 = false ∧ used.pageInUse 2 = true ∧
    (11 : Byte).toNat ≤ 11 ∧ ¬ (12 : Byte).toNat ≤ 11 ∧ (State.reset.store.page 7).state ≠ .sealed ∧
    twoSealed.store.pageMap.getD 11 0 = 0 := by decide +kernel

/-- Items 0 to 86 have a meaning and 87 has none; a value at and beyond its range for each kind of item. -/
theorem witness_ChassisSettingWritten :
    let ask := fun (item : Byte) (value : Half) => answer (.writeChassisSetting 7 item value) State.reset
    (State.reset.standstill = true ∧ defaultChassis.windows.length = 6 ∧ defaultChassis.frontRadius.length = 14 ∧
      defaultChassis.rearRadius.length = 14 ∧ defaultChassis.alertMap.length = 12) ∧
    ask 86 15 = some [0x08, 7, 0] ∧ ask 86 16 = some [0x08, 7, 2] ∧ ask 87 0 = some [0x08, 7, 2] ∧
    ask 0 3000 = some [0x08, 7, 0] ∧ ask 0 3001 = some [0x08, 7, 2] ∧ ask 1 0xF448 = some [0x08, 7, 0] ∧
    ask 1 0xF447 = some [0x08, 7, 2] ∧ ask 15 250 = some [0x08, 7, 0] ∧ ask 16 400 = some [0x08, 7, 0] ∧
    ask 16 401 = some [0x08, 7, 2] ∧ ask 17 0xFFFF = some [0x08, 7, 0] ∧ ask 18 3686 = some [0x08, 7, 0] ∧
    ask 45 4097 = some [0x08, 7, 2] ∧ ask 46 0 = some [0x08, 7, 2] ∧ ask 47 2 = some [0x08, 7, 2] ∧
    ask 49 2 = some [0x08, 7, 0] ∧ ask 50 4 = some [0x08, 7, 2] ∧ ask 85 1 = some [0x08, 7, 0] := by decide +kernel

/-- The reset state with one class asserted: by an event, or by a condition's cause that has come. -/
def alerting (h : HandOff) : State := State.reset.handOff h

/-- A condition set to LATCHED, its cause present; and its cause come and gone. -/
def latched : State := (after (.writeChassisSetting 7 55 0) State.reset).handOff (.present .wheelLoss (.route 1) 1)
def waiting : State := latched.handOff (.absent .wheelLoss)

/-- An asserted event after one more write of its items: 60 masks it, 61 makes it FOLLOW. -/
def rewritten (item : Byte) : State := after (.writeChassisSetting 7 item 1) (alerting (.event .streamFlood (.route 0) 1))

theorem alerting_faultsSound :
    (alerting (.event .streamFlood (.route 0) 1)).FaultsSound ∧ (alerting (.present .inertialLoss (.route 0) 1)).FaultsSound ∧
    (alerting (.present .portAFault (.port .a) 255)).FaultsSound ∧ waiting.FaultsSound ∧ latched.FaultsSound ∧
    (rewritten 60).FaultsSound ∧ (rewritten 61).FaultsSound :=
  ⟨faultsSound_of (by decide +kernel) (by decide +kernel) (by decide +kernel),
    faultsSound_of (by decide +kernel) (by decide +kernel) (by decide +kernel),
    faultsSound_of (by decide +kernel) (by decide +kernel) (by decide +kernel),
    faultsSound_of (by decide +kernel) (by decide +kernel) (by decide +kernel),
    faultsSound_of (by decide +kernel) (by decide +kernel) (by decide +kernel),
    faultsSound_of (by decide +kernel) (by decide +kernel) (by decide +kernel),
    faultsSound_of (by decide +kernel) (by decide +kernel) (by decide +kernel)⟩

/-- Items 50, 60 and 85 of the classes 1, 4 and 12; an event and a condition that are asserted and unmasked, a masked condition, a
LATCHED condition with and without its cause, a masked LATCHED event, an unmasked FOLLOW event, and a released class. -/
theorem witness_AlertMapWritten :
    let event := alerting (.event .streamFlood (.route 0) 1)
    let masked := alerting (.present .portAFault (.port .a) 255)
    (∀ s ∈ [event, alerting (.present .inertialLoss (.route 0) 1), masked, waiting, latched, rewritten 60, rewritten 61],
      s.standstill = true) ∧
    (50 : Byte).toNat = 50 + (FaultClass.inertialLoss.number - 1) * 3 + 0 ∧
    (60 : Byte).toNat = 50 + (FaultClass.streamFlood.number - 1) * 3 + 1 ∧
    (85 : Byte).toNat = 50 + (FaultClass.portAFault.number - 1) * 3 + 2 ∧
    (event.faults.record .streamFlood).asserted = true ∧ settingOf defaultAlertMap .streamFlood = ⟨1, false, .latched⟩ ∧
    (masked.faults.record .portAFault).asserted = true ∧ settingOf defaultAlertMap .portAFault = ⟨2, true, .follow⟩ ∧
    (waiting.faults.record .wheelLoss).asserted = true ∧ (waiting.faults.record .wheelLoss).cause = false ∧
    settingOf waiting.store.chassis.alertMap .wheelLoss = ⟨3, false, .latched⟩ ∧
    (latched.faults.record .wheelLoss).cause = true ∧
    ((rewritten 60).faults.record .streamFlood).asserted = true ∧
    settingOf (rewritten 60).store.chassis.alertMap .streamFlood = ⟨1, true, .latched⟩ ∧
    ((rewritten 61).faults.record .streamFlood).asserted = true ∧
    settingOf (rewritten 61).store.chassis.alertMap .streamFlood = ⟨1, false, .follow⟩ ∧
    (event.faults.record .wheelLoss).asserted = false := by decide +kernel

/-- R171: the level of an asserted class is moved: its old level queues a final frame and becomes IDLE, its new one is ACTIVE. -/
theorem test_alertMap_level_moved :
    let t := after (.writeChassisSetting 7 59 3) (alerting (.event .streamFlood (.route 0) 1))
    (t.faults.level 1).phase = .idle ∧ (t.faults.level 3).phase = .active ∧ (t.faults.level 1).frames = 2 ∧
    t.portA.q1.map (fun a => (a.level, a.frame.data)) = [(1, [0, 0, 0x50]), (3, [0, 8, 0x54])] := by decide +kernel

/-! ### The classifier's commands -/

/-- Entry 9 claimed with given fields. -/
def claimed (f : RouteFields) : State := State.reset.modifyRoute 9 (fun e => { e with state := .disabled, fields := f })

/-- Entries 47 and 48, fields 10 and 11, each state of an entry, a value at and beyond its range; and each check of ENABLE ROUTE. -/
theorem witness_RouteFieldAndEnable :
    let write := fun (entry field : Byte) (value : Half) => answer (.writeRouteField 7 entry field value) (claimed blankFields)
    let enable := fun (f : RouteFields) => answer (.enableRoute 7 9) (claimed f)
    (claimed blankFields).standstill = true ∧ write 48 0 0 = some [0x05, 7, 2] ∧ write 9 11 0 = some [0x05, 7, 2] ∧
    write 47 10 2 = some [0x05, 7, 2] ∧ write 0 10 2 = some [0x05, 7, 5] ∧ write 9 10 2 = some [0x05, 7, 0] ∧
    write 9 10 51 = some [0x05, 7, 2] ∧ write 9 4 0xFFFF = some [0x05, 7, 0] ∧ write 9 4 0x800 = some [0x05, 7, 2] ∧
    answer (.enableRoute 7 48) State.reset = some [0x06, 7, 2] ∧ answer (.enableRoute 7 47) State.reset = some [0x06, 7, 2] ∧
    answer (.enableRoute 7 0) State.reset = some [0x06, 7, 0] ∧
    enable { blankFields with cls := .wheelFront, staleTime := 200 } = some [0x06, 7, 2] ∧
    enable { blankFields with cls := .dashCommand, port := .b } = some [0x06, 7, 2] ∧
    enable { blankFields with ident := 0x0B1 } = some [0x06, 7, 10] ∧
    enable { blankFields with cls := .dashCommand } = some [0x06, 7, 11] ∧ enable blankFields = some [0x06, 7, 0] := by
  decide +kernel

/-- Entries 48, a DISABLED one, a FREE one, one of class PASS and one whose stream is trusted in GOVERN. -/
theorem witness_RouteDisabled :
    let s : State := { State.reset with
      inertial := fresh (.inertial 0 0 0), governor := { resetGovernor with state := .govern } }
    s.standstill = true ∧ 47 < (48 : Byte).toNat ∧ ((claimed blankFields).route 9).state = .disabled ∧
    (State.reset.route 47).state = .free ∧ (State.reset.route 8).state = .enabled ∧
    streamOf (State.reset.route 8).fields.cls = none ∧ (s.route 0).state = .enabled ∧
    streamOf (s.route 0).fields.cls = some .inertial ∧ s.inertial.state.trusted = true ∧ s.governor.state = .govern ∧
    State.reset.inertial.state.trusted = false := by decide +kernel

/-! ### Governor restart, monitor switch, capture and reads -/

theorem witness_GovernorRestarted :
    resting.standstill = true ∧ (∃ n, resting.engine.running = some ⟨.ceiling n, false⟩) ∧ State.reset.engine.running = none :=
  ⟨by decide +kernel, ⟨_, rfl⟩, rfl⟩

/-- Operands at and beyond each range. -/
theorem witness_UngatedCommands :
    let s := State.reset
    (entryInRange 7 3 7 = true ∧ entryInRange 7 3 8 = false) ∧
    ((s.route 47).fields.read 10 = some 10 ∧ answer (.readRouteField 7 48 0) s = some [0x11, 7, 2]) ∧
    (chassisItem 86 = some .vectorBase ∧ chassisItem 87 = none) ∧
    (s.itemFields 10 0 = some [[0, 0]] ∧ s.itemFields 11 0 = none ∧ s.itemFields 5 5 = none ∧ s.itemFields 6 2 = none ∧
      answer (.readState .service 7 10 0 1) s = some [0x13, 7, 2]) ∧
    ((s.blockCounters 9 104).isSome = true ∧ s.blockCounters 9 105 = none ∧ s.blockCounters 0 48 = none ∧
      s.blockCounters 11 0 = none ∧ answer (.readCounter 7 10 0 9) s = some [0x14, 7, 2]) := by decide +kernel

/-- The last part, counter, selector and number of an item or a block, and the next. -/
theorem witness_ItemsAndCountersRead :
    let s := State.reset
    let state := fun (item selector part : Byte) => answer (.readState .dash 7 item selector part) s
    let counter := fun (block selector n : Byte) => answer (.readCounter 7 block selector n) s
    state 9 0 7 = some [0x13, 7, 0] ∧ state 9 0 8 = some [0x13, 7, 2] ∧ state 11 0 0 = some [0x13, 7, 2] ∧
    state 0 1 0 = some [0x13, 7, 2] ∧ state 5 4 2 = some [0x13, 7, 0] ∧ state 5 5 0 = some [0x13, 7, 2] ∧
    state 6 2 0 = some [0x13, 7, 2] ∧ counter 0 47 7 = some [0x14, 7, 0] ∧ counter 0 47 8 = some [0x14, 7, 2] ∧
    counter 0 48 0 = some [0x14, 7, 2] ∧ counter 9 12 0 = some [0x14, 7, 0] ∧ counter 9 13 0 = some [0x14, 7, 2] ∧
    counter 9 100 0 = some [0x14, 7, 2] ∧ counter 9 101 0 = some [0x14, 7, 0] ∧ counter 9 104 1 = some [0x14, 7, 2] ∧
    counter 9 105 0 = some [0x14, 7, 2] ∧ counter 2 1 0 = some [0x14, 7, 2] ∧ counter 11 0 0 = some [0x14, 7, 2] := by
  decide +kernel

end

end Sys2Proof.Tests
end

section
/-! The state that the evaluation engine, the lean estimate and the traction cut turn on: the evaluation core, and the operations of the
part that leave it as it is. -/

namespace Sys2Proof.Machine

/-! ## The evaluation core -/

/-- The parts of the state that the soundness of engine, hold slot, estimate and cut reads. -/
structure EvalCore where
  engine : Engine
  lean : Int
  queue : List Sample
  cut : Nat
  fold : Bool
  state : GovState
  withdrawn : Bool
  slot : Option HeldRequest
  timing : Bool
  sealRecord : Option SealRecord

/-- The evaluation core of a state. -/
def State.evalCore (s : State) : EvalCore where
  engine := s.engine
  lean := s.lean.lean
  queue := s.lean.queue
  cut := s.eval.cut
  fold := s.eval.fold
  state := s.governor.state
  withdrawn := s.governor.withdrawn
  slot := s.forwarder.slot
  timing := s.forwarder.holdTimer.isSome
  sealRecord := s.store.sealRecord

/-! ## What leaves the core as it is -/

@[simp] theorem State.evalCore_setPort (s : State) (p : PortId) (x : Port) : (s.setPort p x).evalCore = s.evalCore := by
  cases p <;> rfl
@[simp] theorem State.evalCore_setStream (s : State) (i : StreamId) (r : StreamRecord) :
    (s.setStream i r).evalCore = s.evalCore := by cases i <;> rfl
@[simp] theorem State.evalCore_modifyRoute (s : State) (i : Nat) (f : RouteEntry → RouteEntry) :
    (s.modifyRoute i f).evalCore = s.evalCore := rfl
@[simp] theorem State.evalCore_countRoute (s : State) (i : Nat) (f : RouteCounts → RouteCounts) :
    (s.countRoute i f).evalCore = s.evalCore := rfl
@[simp] theorem State.evalCore_countUnknown (s : State) (p : PortId) (f : UnknownCounts → UnknownCounts) :
    (s.countUnknown p f).evalCore = s.evalCore := by cases p <;> rfl
@[simp] theorem State.evalCore_withFaultSide (s : State) (x : FaultSide) : (s.withFaultSide x).evalCore = s.evalCore := rfl
@[simp] theorem State.evalCore_handOff (s : State) (h : HandOff) : (s.handOff h).evalCore = s.evalCore := rfl
@[simp] theorem State.evalCore_handOffs (s : State) (hs : List HandOff) : (s.handOffs hs).evalCore = s.evalCore := rfl
@[simp] theorem State.evalCore_offer (s : State) (p : PortId) (q : PlainQueue) (f : Frame) :
    (s.offer p q f).evalCore = s.evalCore := s.evalCore_setPort p _
@[simp] theorem State.evalCore_arbitrate (s : State) (p : PortId) : (s.arbitrate p).evalCore = s.evalCore :=
  s.evalCore_setPort p _
@[simp] theorem State.evalCore_countTaken (s : State) (x : Sender) : (s.countTaken x).evalCore = s.evalCore := rfl
@[simp] theorem State.evalCore_reply (s : State) (x : Sender) (code tag : Byte) (r : Result) (data : List Byte) :
    (s.reply x code tag r data).evalCore = s.evalCore := rfl
@[simp] theorem Answer.evalCore_send (a : Answer) (x : Sender) (code tag : Byte) :
    (a.send x code tag).evalCore = a.state.evalCore := rfl
@[simp] theorem State.evalCore_refuseMoving (s : State) (code tag : Byte) : (s.refuseMoving code tag).evalCore = s.evalCore := rfl
@[simp] theorem State.evalCore_setWanted (s : State) (x : Selection) : (s.setWanted x).evalCore = s.evalCore := rfl

/-- A lean report leaves the core: it is offered to the queues and counted (R56 to R58). -/
@[simp] theorem State.evalCore_sendReport (s : State) : s.sendReport.evalCore = s.evalCore := by
  unfold State.sendReport
  simp only
  split <;> simp only [State.evalCore_offer] <;> rfl

@[simp] theorem State.evalCore_decimate (s : State) : s.decimate.evalCore = s.evalCore := by
  unfold State.decimate
  split
  · rw [State.evalCore_sendReport]
    rfl
  · rfl

/-- Time on the hold timer neither starts nor stops it (R85). -/
theorem State.evalCore_elapse (s : State) (steps : Nat) :
    ({ s with forwarder := s.forwarder.elapse steps } : State).evalCore = s.evalCore := by
  have timing : (s.forwarder.elapse steps).holdTimer.isSome = s.forwarder.holdTimer.isSome := by
    rw [Bool.eq_iff_iff, Option.isSome_iff_ne_none, Option.isSome_iff_ne_none, Ne, Ne, (s.forwarder.elapse_frame steps).2]
  simp [State.evalCore, timing]

@[simp] theorem State.evalCore_forwardFrame (s : State) (i : Nat) (p : PortId) (e : RouteFields) (f : Frame) :
    (s.forwardFrame i p e f).evalCore = s.evalCore := by
  unfold State.forwardFrame
  split <;> simp

@[simp] theorem State.evalCore_forwardConsumed (s : State) (k : StreamId) (i : Nat) (p : PortId) (e : RouteFields) (f : Frame) :
    (s.forwardConsumed k i p e f).evalCore = s.evalCore := by
  unfold State.forwardConsumed
  split <;> simp

@[simp] theorem State.evalCore_unknownFrame (s : State) (p : PortId) (f : Frame) : (s.unknownFrame p f).evalCore = s.evalCore := by
  unfold State.unknownFrame
  split <;> simp

@[simp] theorem State.evalCore_portPresent (s : State) (p : PortId) : (s.portPresent p).evalCore = s.evalCore := rfl
@[simp] theorem State.evalCore_portAbsent (s : State) (p : PortId) : (s.portAbsent p).evalCore = s.evalCore := rfl

@[simp] theorem State.evalCore_transmitSuccess (s : State) (p : PortId) : (s.transmitSuccess p).evalCore = s.evalCore := by
  unfold State.transmitSuccess
  simp only
  split <;> simp

@[simp] theorem State.evalCore_giveUpFrame (s : State) (p : PortId) : (s.giveUpFrame p).evalCore = s.evalCore := by
  unfold State.giveUpFrame
  simp only
  split <;> simp

@[simp] theorem State.evalCore_transmitFailure (s : State) (p : PortId) (f : SlotFrame) :
    (s.transmitFailure p f).evalCore = s.evalCore := by
  unfold State.transmitFailure
  simp only
  split
  · simp
  · split <;> simp

@[simp] theorem State.evalCore_recoverPort (s : State) (p : PortId) : (s.recoverPort p).evalCore = s.evalCore := by
  unfold State.recoverPort
  cases p <;> simp

/-! ## The owners' answers that leave the core as it is -/

theorem State.evalCore_writePage (s : State) (page table index v : Nat) :
    (s.writePage page table index v).state.evalCore = s.evalCore := by
  unfold State.writePage
  repeat' split
  all_goals rfl

theorem State.evalCore_unsealPageAt (s : State) (page : Nat) : (s.unsealPageAt page).state.evalCore = s.evalCore := by
  unfold State.unsealPageAt
  repeat' split
  all_goals rfl

theorem State.evalCore_mapPageAt (s : State) (slot expected new : Nat) :
    (s.mapPageAt slot expected new).state.evalCore = s.evalCore := by
  unfold State.mapPageAt
  simp only
  repeat' split
  all_goals rfl

theorem State.evalCore_writeRoute (s : State) (entry field v : Nat) :
    (s.writeRoute entry field v).state.evalCore = s.evalCore := by
  unfold State.writeRoute
  repeat' split
  all_goals rfl

theorem State.evalCore_enableRouteAt (s : State) (entry : Nat) : (s.enableRouteAt entry).state.evalCore = s.evalCore := by
  unfold State.enableRouteAt
  repeat' split
  all_goals rfl

theorem State.evalCore_alertMapWritten (s : State) (item : ChassisItem) (before : Chassis) :
    (s.alertMapWritten item before).evalCore = s.evalCore := by
  unfold State.alertMapWritten
  split <;> rfl

theorem State.evalCore_writeChassis (s : State) (n : Nat) (v : Half) : (s.writeChassis n v).state.evalCore = s.evalCore := by
  unfold State.writeChassis
  split
  · rfl
  · split
    · rfl
    · simp only [answerPlain, State.evalCore_alertMapWritten]
      rfl

theorem State.evalCore_setMonitor (s : State) (value : Nat) : (s.setMonitor value).state.evalCore = s.evalCore := by
  unfold State.setMonitor
  split <;> rfl

theorem State.state_readPage (s : State) (page table index : Nat) : (s.readPage page table index).state = s := by
  unfold State.readPage
  split <;> rfl

theorem State.state_readRoute (s : State) (entry field : Nat) : (s.readRoute entry field).state = s := by
  unfold State.readRoute
  split
  · rfl
  · simp only
    split <;> rfl

theorem State.state_readChassis (s : State) (n : Nat) : (s.readChassis n).state = s := by
  unfold State.readChassis
  split <;> rfl

theorem State.state_readItem (s : State) (item selector part : Nat) : (s.readItem item selector part).state = s := by
  unfold State.readItem
  split <;> rfl

theorem State.state_readCount (s : State) (block selector counter : Nat) : (s.readCount block selector counter).state = s := by
  unfold State.readCount
  split <;> rfl

end Sys2Proof.Machine
end

section
/-! The operations that move the evaluation core, said once each: the running job under a void mark, a recorded seal step, room in the
sample queue, and the parts of a CEILING completion. -/

namespace Sys2Proof.Machine

/-! ## The running job -/

/-- A CEILING job runs unvoided exactly when the running record says so. -/
theorem Engine.ceilingRunning_iff (e : Engine) : e.ceilingRunning ↔ ∃ n, e.running = some ⟨.ceiling n, false⟩ := by
  unfold Engine.ceilingRunning
  split
  · rename_i n v running
    cases v <;> simp [running]
  · rename_i other
    simpa using fun n running => other n false running

/-- An IDLE engine runs no CEILING job. -/
theorem Engine.ceilingRunning_idle {e : Engine} (idle : e.running = none) : e.ceilingRunning = false := by
  simp [Engine.ceilingRunning, idle]

/-- The void mark of a LEAN job changes which CEILING or SEAL_STEP job runs in nothing (R36). -/
theorem Engine.voidLean_frame (e : Engine) :
    (e.voidLean.running = none ↔ e.running = none) ∧
    (∀ n v, e.voidLean.running = some ⟨.ceiling n, v⟩ ↔ e.running = some ⟨.ceiling n, v⟩) ∧
    (∀ n v, e.voidLean.running = some ⟨.sealStep n, v⟩ ↔ e.running = some ⟨.sealStep n, v⟩) := by
  unfold Engine.voidLean
  rcases e.running with _ | ⟨_ | _ | _, v⟩ <;> simp

theorem Engine.voidLean_ceilingRunning (e : Engine) : e.voidLean.ceilingRunning = e.ceilingRunning := by
  rw [Bool.eq_iff_iff, Engine.ceilingRunning_iff, Engine.ceilingRunning_iff]
  obtain ⟨-, ceiling, -⟩ := e.voidLean_frame
  exact exists_congr fun n => ceiling n false

/-- A restart moves no job but by its void mark, and leaves a SEAL_STEP as it was (R36). -/
theorem Engine.restart_frame (e : Engine) :
    (e.restart.running = none ↔ e.running = none) ∧
    (∀ n v, e.restart.running = some ⟨.ceiling n, v⟩ → ∃ w, e.running = some ⟨.ceiling n, w⟩) ∧
    (∀ n v, e.restart.running = some ⟨.sealStep n, v⟩ ↔ e.running = some ⟨.sealStep n, v⟩) := by
  unfold Engine.restart
  rcases e.running with _ | ⟨_ | _ | _, v⟩ <;> simp

/-! ## A recorded seal step, and room in the sample queue -/

/-- The three outcomes of a recorded step: the seal goes on with its next step pending, or has ended (R127). -/
theorem State.recordStep_outcome {s : State} (busy : s.engine.running ≠ none) (r : SealRecord) (n : SealSnapshot) :
    (s.recordStep r n).lean = s.lean ∧ (s.recordStep r n).forwarder = s.forwarder ∧
    (s.recordStep r n).governor = s.governor ∧ (s.recordStep r n).eval = s.eval ∧
    (((s.recordStep r n).engine = { s.engine with sealPending := true } ∧ (s.recordStep r n).store.sealRecord ≠ none) ∨
      ((s.recordStep r n).engine = s.engine ∧ (s.recordStep r n).store.sealRecord = none)) := by
  unfold State.recordStep
  split
  · exact ⟨rfl, rfl, rfl, rfl, .inr ⟨rfl, rfl⟩⟩
  · split
    · have e : s.advanceSeal r = { s with
          store := { s.store with sealRecord := some { r with step := r.step + 1 } }
          engine := { s.engine with sealPending := true } } := State.choose_busy busy
      rw [e]
      exact ⟨rfl, rfl, rfl, rfl, .inl ⟨rfl, by simp⟩⟩
    · exact ⟨rfl, rfl, rfl, rfl, .inr ⟨rfl, rfl⟩⟩

/-- Room is made by dropping the oldest sample of a full queue; the estimate and the other blocks stand (R39). -/
theorem State.makeRoom_frame (s : State) :
    s.makeRoom.engine = s.engine ∧ s.makeRoom.forwarder = s.forwarder ∧ s.makeRoom.store = s.store ∧
    s.makeRoom.governor = s.governor ∧ s.makeRoom.eval = s.eval ∧ s.makeRoom.lean.lean = s.lean.lean ∧
    (s.lean.queue.length ≤ 4 → s.makeRoom.lean.queue.length < 4) := by
  unfold State.makeRoom
  split
  · split
    · rename_i queue
      refine ⟨rfl, rfl, rfl, rfl, rfl, rfl, fun depth => ?_⟩
      simpa [State.overrun, queue] using depth
    · rename_i queue
      exact ⟨rfl, rfl, rfl, rfl, rfl, rfl, fun _ => by simp [queue]⟩
  · rename_i room
    exact ⟨rfl, rfl, rfl, rfl, rfl, rfl, fun _ => by simp only [sampleDepth] at room; omega⟩

/-! ## The parts of a CEILING completion -/

/-- A CEILING job's results written and its decision committed: the hand-off of its completion but for the answer to the held
request (R74, R110). -/
def State.evaluated (s : State) (n : CeilingSnapshot) : State :=
  ({ s with eval := s.eval.write n (s.decisionOf n) (s.store.page (s.decisionOf n).page) } : State).commit (s.decisionOf n) s.eval.fold

/-- The state with its hold slot empty and the hold timer stopped. -/
def State.emptySlot (s : State) : State := { s with forwarder := { s.forwarder with slot := none, holdTimer := none } }

/-- To the core, an answer empties the hold slot and stops its timer (R89, R90). -/
theorem State.evalCore_answer (s : State) (h : HeldRequest) (late : Bool) : (s.answer h late).evalCore = s.emptySlot.evalCore := by
  unfold State.answer
  simp only
  split <;> simp only [State.evalCore_offer] <;> rfl

/-- The forwarder's part of a CEILING completion is the answer of a held request, or nothing (R89). -/
theorem State.answerAtCompletion_cases (s : State) :
    (∃ h, s.forwarder.slot = some h ∧ s.answerAtCompletion = s.answer h false) ∨
      (s.forwarder.slot = none ∧ s.answerAtCompletion = s) := by
  unfold State.answerAtCompletion
  cases hs : s.forwarder.slot with
  | some h => exact .inl ⟨h, rfl, rfl⟩
  | none => exact .inr ⟨rfl, rfl⟩

/-- A CEILING completion's hand-off leaves the engine and the sample queue to the choice after it; the hold slot is then empty and no
withdrawal stands (R34, R89, R110). -/
theorem State.ceilingHandOff_leaves (s : State) (n : CeilingSnapshot) :
    (s.ceilingHandOff n).engine = s.engine ∧ (s.ceilingHandOff n).lean.queue = s.lean.queue ∧
    (s.ceilingHandOff n).forwarder.slot = none ∧ (s.ceilingHandOff n).governor.withdrawn = false := by
  have parts : s.ceilingHandOff n = (s.evaluated n).answerAtCompletion := rfl
  rw [parts]
  rcases (s.evaluated n).answerAtCompletion_cases with ⟨h, _, e⟩ | ⟨empty, e⟩ <;> rw [e]
  · have core := (s.evaluated n).evalCore_answer h false
    exact ⟨congrArg EvalCore.engine core, congrArg EvalCore.queue core, congrArg EvalCore.slot core, congrArg EvalCore.withdrawn core⟩
  · exact ⟨rfl, rfl, empty, rfl⟩

/-- A LEAN completion's hand-off leaves the engine and the sample queue to the choice after it (R34, R49). -/
theorem State.leanHandOff_leaves (s : State) (n : LeanSnapshot) :
    (s.leanHandOff n).engine = s.engine ∧ (s.leanHandOff n).lean.queue = s.lean.queue := by
  have core : (s.leanHandOff n).evalCore = ({ s with lean := s.lean.write n } : State).evalCore := State.evalCore_decimate _
  exact ⟨congrArg EvalCore.engine core, congrArg EvalCore.queue core⟩

end Sys2Proof.Machine
end

section
/-! Every step of the part is a chain of moves of the evaluation core, so that a standing promise about engine, estimate and cut is
checked move by move. -/

namespace Sys2Proof.Machine

/-! ## The moves of the core -/

/-- What can move the evaluation core, one constructor for each operation of the blocks, closed under chaining. -/
inductive EvalMoves : State → State → Prop
  /-- Nothing of the core moves. -/
  | same {s t : State} : t.evalCore = s.evalCore → EvalMoves s t
  | trans {s t u : State} : EvalMoves s t → EvalMoves t u → EvalMoves s u
  /-- The engine's choice (R33). -/
  | choose (s : State) : EvalMoves s s.choose
  /-- A job other than an unvoided CEILING job ends, or a CEILING job that has answered and committed (R34). -/
  | finishJob {s : State} :
      s.engine.ceilingRunning = false ∨ (s.forwarder.slot = none ∧ s.governor.withdrawn = false) → EvalMoves s s.finishJob
  /-- A void job ends (R36). -/
  | finishVoid {s : State} (ceiling : Bool) : s.engine.ceilingRunning = false → EvalMoves s (s.finishVoid ceiling)
  /-- The results of a LEAN job (R49). -/
  | leanWrite (s : State) (n : LeanSnapshot) : EvalMoves s { s with lean := s.lean.write n }
  /-- The results of a CEILING job (R74). -/
  | evaluated {s : State} {n : CeilingSnapshot} {v : Bool} :
      s.engine.running = some ⟨.ceiling n, v⟩ → EvalMoves s (s.evaluated n)
  /-- The held request is answered (R89, R90). -/
  | answer (s : State) (h : HeldRequest) (late : Bool) : EvalMoves s (s.answer h late)
  /-- A SEAL_STEP ends (R127). -/
  | sealDone {s : State} {n : SealSnapshot} {v : Bool} (r : SealRecord) :
      s.engine.running = some ⟨.sealStep n, v⟩ → EvalMoves s (s.recordStep r n).finishJob
  /-- The estimate is invalidated (R50, R36). -/
  | invalidateLean (s : State) : EvalMoves s s.invalidateLean
  /-- A governing stream is lost (R111 to R113). -/
  | governingLoss (s : State) : EvalMoves s s.governingLoss
  /-- A sample joins the queue (R38, R39). -/
  | joinSample (s : State) (x : Sample) : EvalMoves s (s.joinSample x)
  /-- A request enters the hold slot (R86, R87). -/
  | enterRequest (s : State) (h : HeldRequest) : EvalMoves s (s.enterRequest h)
  /-- The governor restarts (R184). -/
  | restartBlocks (s : State) : EvalMoves s s.restartBlocks
  /-- A seal begins (R125). -/
  | beginSeal {s : State} (page : Nat) (tag : Byte) : s.store.sealRecord = none → EvalMoves s (s.beginSeal page tag)
  /-- Power-on reset (R29). -/
  | reset {s t : State} : t.evalCore = State.reset.evalCore → EvalMoves s t

namespace EvalMoves

theorem refl (s : State) : EvalMoves s s := same rfl

/-- A move after an update that leaves the core as it is. -/
theorem after {s t u : State} (h : t.evalCore = s.evalCore) (m : EvalMoves t u) : EvalMoves s u := (same h).trans m

/-- A move before an update that leaves the core as it is. -/
theorem before {s t u : State} (m : EvalMoves s t) (h : u.evalCore = t.evalCore) : EvalMoves s u := m.trans (same h)

/-! ## Streams -/

theorem leaveTrusted (s : State) (i : StreamId) : EvalMoves s (s.leaveTrusted i) := by
  cases i with
  | inertial => exact (invalidateLean s).trans (governingLoss _)
  | wheelFront => exact governingLoss s
  | wheelRear => exact governingLoss s
  | torqueRequest => exact refl s
  | riderSelect => exact refl s

theorem moveStream (s : State) (i : StreamId) (source : Source) (r : StreamRecord) :
    EvalMoves s (s.moveStream i source r).1 := by
  rw [State.moveStream_fst]
  split
  · exact after (s.evalCore_setStream i r) (leaveTrusted _ i)
  · exact same (s.evalCore_setStream i r)

theorem floodEntry (acc : State × List HandOff) (x : Nat × RouteEntry) : EvalMoves acc.1 (floodEntry acc x).1 := by
  unfold Machine.floodEntry
  simp only
  split
  · exact refl _
  · exact moveStream _ _ _ _

theorem floods (xs : List (Nat × RouteEntry)) (acc : State × List HandOff) :
    EvalMoves acc.1 (xs.foldl Machine.floodEntry acc).1 := by
  induction xs generalizing acc with
  | nil => exact refl _
  | cons x xs ih => exact (floodEntry acc x).trans (ih _)

theorem windowExpiry (s : State) : EvalMoves s s.windowExpiry := by
  unfold State.windowExpiry
  refine before ?_ (State.evalCore_handOffs _ _)
  refine after ?_ (floods _ (_, []))
  rfl

/-! ## Received frames -/

theorem rejectFrame (s : State) (i : StreamId) (index : Nat) (cls : FaultClass) (value : Half) :
    EvalMoves s (s.rejectFrame i index cls value) :=
  (after (s.evalCore_countRoute _ _) (moveStream _ _ _ _)).before (State.evalCore_handOffs _ _)

theorem recordAccepted (s : State) (i : StreamId) (index : Nat) (e : RouteFields) (f : Frame) (v : Values) (sequenceError : Bool) :
    EvalMoves s (s.recordAccepted i index e f v sequenceError) :=
  (after (s.evalCore_countRoute _ _) (moveStream _ _ _ _)).before (State.evalCore_handOffs _ _)

theorem dispatch (s : State) (i : StreamId) (index : Nat) (e : RouteFields) (f : Frame) (v : Values) :
    EvalMoves s (s.dispatch i index e f v) := by
  cases v with
  | inertial roll yaw lateral =>
    simp only [State.dispatch]
    split
    · exact joinSample s _
    · exact refl s
  | speed v => exact refl s
  | torque t clamped => exact enterRequest s _
  | selection mode load traction =>
    simp only [State.dispatch]
    split
    · exact same (s.evalCore_setWanted _)
    · exact refl s

theorem supervise (s : State) (i : StreamId) (index : Nat) (p : PortId) (e : RouteFields) (f : Frame) :
    EvalMoves s (s.supervise i index p e f) := by
  unfold State.supervise
  split
  · exact rejectFrame s _ _ _ _
  · exact same (s.evalCore_countRoute _ _)
  · exact ((recordAccepted s _ _ _ _ _ _).trans (dispatch _ _ _ _ _ _)).before (State.evalCore_forwardConsumed _ _ _ _ _ _)

/-! ## Commands -/

/-- A command behind the standstill gate moves what its owner moves (R177). -/
theorem gated (s : State) (code tag : Byte) (run : State → State) (moves : EvalMoves s (run s)) :
    EvalMoves s (s.gated code tag run) := by
  unfold State.gated
  split
  · exact moves
  · exact same (s.evalCore_refuseMoving code tag)

/-- An answer whose owner leaves the core as it is. -/
theorem answered {s : State} {a : Answer} (x : Sender) (code tag : Byte) (h : a.state.evalCore = s.evalCore) :
    EvalMoves s (a.send x code tag) := same h

theorem sealPageAt (s : State) (tag page : Byte) : EvalMoves s (s.sealPageAt tag page) := by
  unfold State.sealPageAt
  split
  · rename_i accepted
    refine beginSeal _ _ ?_
    by_contra record
    have busy : s.store.sealRecord.isSome := Option.isSome_iff_ne_none.2 record
    simp only [State.sealAnswer, busy, if_true] at accepted
    repeat' split at accepted
    all_goals exact nomatch accepted
  · exact same (s.evalCore_reply _ _ _ _ _)

theorem disableEnabled (s : State) (entry : Nat) : EvalMoves s (s.disableEnabled entry) := by
  unfold State.disableEnabled
  simp only
  split
  · exact same (s.evalCore_modifyRoute _ _)
  · exact (after (s.evalCore_modifyRoute _ _) (moveStream _ _ _ _)).before (State.evalCore_handOffs _ _)

theorem disableRouteAt (s : State) (entry : Nat) : EvalMoves s (s.disableRouteAt entry).state := by
  unfold State.disableRouteAt
  split
  · exact refl s
  · split
    · exact disableEnabled s entry
    · exact refl s
    · exact same (s.evalCore_modifyRoute _ _)

/-- Every command that the command unit runs moves the core by these moves (R178). -/
theorem runCommand (s : State) (c : Instr) : EvalMoves s (s.runCommand c) := by
  cases c with
  | writePageEntry tag page table index value =>
    simp only [State.runCommand, State.runWritePage]
    exact gated s _ _ _ (answered _ _ _ (s.evalCore_writePage _ _ _ _))
  | sealPage tag page =>
    simp only [State.runCommand, State.runSealPage]
    exact gated s _ _ _ (sealPageAt s tag page)
  | unsealPage tag page =>
    simp only [State.runCommand, State.runUnsealPage]
    exact gated s _ _ _ (answered _ _ _ (s.evalCore_unsealPageAt _))
  | mapPage tag slot expected new =>
    simp only [State.runCommand, State.runMapPage]
    exact gated s _ _ _ (answered _ _ _ (s.evalCore_mapPageAt _ _ _))
  | writeRouteField tag entry field value =>
    simp only [State.runCommand, State.runWriteRoute]
    exact gated s _ _ _ (answered _ _ _ (s.evalCore_writeRoute _ _ _))
  | enableRoute tag entry =>
    simp only [State.runCommand, State.runEnableRoute]
    exact gated s _ _ _ (answered _ _ _ (s.evalCore_enableRouteAt _))
  | disableRoute tag entry =>
    simp only [State.runCommand, State.runDisableRoute]
    exact gated s _ _ _ ((disableRouteAt s entry.toNat).before (Answer.evalCore_send _ _ _ _))
  | writeChassisSetting tag item value =>
    simp only [State.runCommand, State.runWriteChassis]
    exact gated s _ _ _ (answered _ _ _ (s.evalCore_writeChassis _ _))
  | restartGovernor tag =>
    simp only [State.runCommand, State.runRestart]
    exact gated s _ _ _ ((restartBlocks s).before rfl)
  | monitorOnOff tag value => exact answered _ _ _ (s.evalCore_setMonitor _)
  | clearCapture tag => exact same rfl
  | ackAlert sender tag cls => exact same rfl
  | readPageEntry tag page table index => exact answered _ _ _ (by rw [State.state_readPage])
  | readRouteField tag entry field => exact answered _ _ _ (by rw [State.state_readRoute])
  | readChassisSetting tag item => exact answered _ _ _ (by rw [State.state_readChassis])
  | readState sender tag item selector part => exact answered _ _ _ (by rw [State.state_readItem])
  | readCounter tag block selector counter => exact answered _ _ _ (by rw [State.state_readCount])
  | readCapture sender tag => exact same rfl
  | _ => exact refl s

theorem takeCommandFrame (s : State) (sender : Sender) (data : List Byte) : EvalMoves s (s.takeCommandFrame sender data) := by
  unfold State.takeCommandFrame State.runFrame
  simp only
  split
  · exact same rfl
  · refine after (s.evalCore_countTaken sender) ?_
    split
    · exact same rfl
    · split
      · exact runCommand _ _
      · exact same rfl

/-! ## Reception -/

theorem treat (s : State) (index : Nat) (p : PortId) (e : RouteFields) (f : Frame) : EvalMoves s (s.treat index p e f) := by
  unfold State.treat
  split
  · exact supervise s _ _ _ _ _
  · exact supervise s _ _ _ _ _
  · exact supervise s _ _ _ _ _
  · exact supervise s _ _ _ _ _
  · exact supervise s _ _ _ _ _
  · exact takeCommandFrame s _ _
  · exact takeCommandFrame s _ _
  · exact same (s.evalCore_forwardFrame _ _ _ _)

theorem deliver (s : State) (p : PortId) (f : Frame) : EvalMoves s (s.deliver p f) := by
  unfold State.deliver State.matchedFrame
  split
  · split
    · exact after (s.evalCore_modifyRoute _ _) (treat _ _ _ _ _)
    · exact same (s.evalCore_modifyRoute _ _)
  · exact same (s.evalCore_unknownFrame p f)

/-! ## Completions and expiries -/

theorem leanHandOff (s : State) (n : LeanSnapshot) : EvalMoves s (s.leanHandOff n) :=
  (leanWrite s n).before (State.evalCore_decimate _)

theorem expireHold (s : State) : EvalMoves s s.expireHold := by
  rcases s.expireHold_cases with ⟨_, e⟩ | ⟨_, h, _, e⟩ <;> rw [e]
  · exact refl s
  · exact (answer s h true).before (State.evalCore_handOff _ _)

theorem ceilingHandOff {s : State} {n : CeilingSnapshot} {v : Bool} (h : s.engine.running = some ⟨.ceiling n, v⟩) :
    EvalMoves s (s.ceilingHandOff n) := by
  refine (evaluated h).trans (?_ : EvalMoves _ (s.evaluated n).answerAtCompletion)
  rcases (s.evaluated n).answerAtCompletion_cases with ⟨h, _, e⟩ | ⟨_, e⟩ <;> rw [e]
  · exact answer _ _ _
  · exact refl _

/-- A completion of a running LEAN job, void or not (R36, R49). -/
theorem leanCompletion {s t : State} (h : exec .leanCompletion s = .next t) : EvalMoves s t := by
  cases h
  split
  · rename_i n v running
    split
    · exact finishVoid false (by simp [Engine.ceilingRunning, running])
    · obtain ⟨engine, -⟩ := s.leanHandOff_leaves n
      exact (leanHandOff s n).trans (finishJob (.inl (by simp [engine, Engine.ceilingRunning, running])))
  · exact refl s

/-- A completion of a running CEILING job, void or not (R36, R74). -/
theorem ceilingCompletion {s t : State} (h : exec .ceilingCompletion s = .next t) : EvalMoves s t := by
  cases h
  split
  · rename_i n v running
    split
    · rename_i isVoid
      exact finishVoid true (by simp [Engine.ceilingRunning, running, isVoid])
    · obtain ⟨-, -, cleared⟩ := s.ceilingHandOff_leaves n
      exact (ceilingHandOff running).trans (finishJob (.inr cleared))
  · exact refl s

/-- A completion of a running SEAL_STEP (R127). -/
theorem sealStepCompletion {s t : State} (h : exec .sealStepCompletion s = .next t) : EvalMoves s t := by
  cases h
  split
  · rename_i running _
    exact sealDone _ running
  · exact refl s

end EvalMoves

/-- The row of a command that a frame carries is the command unit taking that command from its sender (R175; log 1). -/
theorem exec_carried {c : Instr} {s : State} (carried : (encodeCommand c).isSome) :
    exec c s = .next ((s.countTaken c.sender).runCommand c) := by
  cases c with
  | powerOnReset | receivedFrame _ _ | policingWindowExpiry | staleExpiry _ | lostExpiry _ | jobStart | leanCompletion
  | ceilingCompletion | sealStepCompletion | holdExpiry | startTimerExpiry | transmitArbiterChoice _ | transmitSuccess _
  | transmitFailure _ | recoveryTimerExpiry _ | repeatTimerExpiry _ | timeBaseAdvance => exact nomatch carried
  | _ => rfl

namespace EvalMoves

theorem receivedFrame {p : PortId} {f : Frame} {s t : State} (h : exec (.receivedFrame p f) s = .next t) : EvalMoves s t := by
  cases h
  split
  · exact same (s.evalCore_setPort p _)
  · split
    · exact same (s.evalCore_setPort p _)
    · exact after (s.evalCore_setPort p _) (deliver _ p f)

/-- An update under a condition moves what the update moves. -/
theorem ite {c : Prop} [Decidable c] {s t : State} (m : EvalMoves s t) : EvalMoves s (if c then t else s) := by
  split
  · exact m
  · exact refl s

theorem lostExpiry {i : StreamId} {s t : State} (h : exec (.lostExpiry i) s = .next t) : EvalMoves s t := by
  cases h
  exact ite ((moveStream s i _ _).before (State.evalCore_handOffs _ _))

/-- A command that a frame carries moves what its run moves (R178). -/
theorem of_command {c : Instr} {s t : State} (carried : (encodeCommand c).isSome) (h : exec c s = .next t) : EvalMoves s t := by
  rw [exec_carried carried] at h
  cases h
  exact after (s.evalCore_countTaken _) (runCommand _ c)

/-- Every command moves the evaluation core by these moves alone. -/
theorem of_exec {c : Instr} {s t : State} (h : exec c s = .next t) : EvalMoves s t := by
  cases c with
  | powerOnReset => cases h; exact reset rfl
  | receivedFrame p f => exact receivedFrame h
  | policingWindowExpiry => cases h; exact ite (windowExpiry s)
  | staleExpiry i => cases h; exact ite (same (s.evalCore_setStream i _))
  | lostExpiry i => exact lostExpiry h
  | jobStart => cases h; exact choose s
  | leanCompletion => exact leanCompletion h
  | ceilingCompletion => exact ceilingCompletion h
  | sealStepCompletion => exact sealStepCompletion h
  | holdExpiry => cases h; exact expireHold s
  | startTimerExpiry => cases h; exact ite (same rfl)
  | transmitArbiterChoice p => cases h; exact same (s.evalCore_arbitrate p)
  | transmitSuccess p =>
    cases h
    split
    · exact same (s.evalCore_transmitSuccess p)
    · exact refl s
  | transmitFailure p =>
    cases h
    split
    · exact same (s.evalCore_transmitFailure p _)
    · exact refl s
  | recoveryTimerExpiry p => cases h; exact ite (same (s.evalCore_recoverPort p))
  | repeatTimerExpiry l => cases h; exact ite (same (s.evalCore_withFaultSide _))
  | timeBaseAdvance => cases h; exact same (s.evalCore_elapse _)
  | _ => exact of_command rfl h

/-- Every step moves the evaluation core by these moves alone. -/
theorem of_step {s t : State} (h : step s = .next t) : EvalMoves s t := by
  unfold step at h
  split at h
  · cases h
    rcases s.idle_cases with ⟨_, e⟩ | ⟨_, e⟩ <;> rw [e]
    · exact expireHold s
    · exact same (s.evalCore_elapse 1)
  · rename_i c rest _
    exact after (t := { s with pending := rest }) rfl (of_exec h)

end EvalMoves

end Sys2Proof.Machine
end

section
/-! The moves keep the lean estimate, the engine with the hold slot, and the traction cut sound. -/

namespace Sys2Proof.Machine

/-! ## The lean estimate (R48) -/

theorem State.LeanSound.of_eq {s t : State} (h : s.LeanSound) (e : t.lean.lean = s.lean.lean) : t.LeanSound := by
  unfold State.LeanSound
  rw [e]
  exact h

theorem State.LeanSound.of_zero {s : State} (e : s.lean.lean = 0) : s.LeanSound := by
  unfold State.LeanSound
  omega

/-- The result of a LEAN job is within the clamp (R48). -/
theorem LeanSnapshot.result_bounds (n : LeanSnapshot) : -6500 ≤ n.result.lean ∧ n.result.lean ≤ 6500 :=
  clampInt_mem (by decide) n.blend

theorem State.askCeiling_lean (s : State) : s.askCeiling.lean.lean = s.lean.lean := by
  rcases s.askCeiling_cases with ⟨e, _⟩ | ⟨_, _, e⟩ <;> rw [e]
  exact State.choose_lean_lean _

/-- Every move keeps the lean estimate within its clamp: a LEAN job writes a clamped value, a restart and a reset write 0. -/
theorem EvalMoves.leanSound {s t : State} (m : EvalMoves s t) (h : s.LeanSound) : t.LeanSound := by
  induction m with
  | same e => exact h.of_eq (congrArg EvalCore.lean e)
  | trans _ _ first second => exact second (first h)
  | choose s => exact h.of_eq s.choose_lean_lean
  | finishJob _ => exact h.of_eq (State.choose_lean_lean _)
  | finishVoid _ _ => exact h.of_eq (State.choose_lean_lean _)
  | leanWrite s n => exact n.result_bounds
  | evaluated _ => exact h.of_eq rfl
  | answer s r late => exact h.of_eq (congrArg EvalCore.lean (s.evalCore_answer r late))
  | @sealDone s n v r running =>
    obtain ⟨lean, -⟩ := State.recordStep_outcome (s := s) (by simp [running]) r n
    exact h.of_eq ((State.choose_lean_lean _).trans (congrArg LeanState.lean lean))
  | invalidateLean s => exact h.of_eq rfl
  | governingLoss s => exact h.of_eq (congrArg (·.lean.lean) s.governingLoss_frame.1)
  | joinSample s x =>
    obtain ⟨-, -, -, -, -, lean, -⟩ := s.makeRoom_frame
    exact h.of_eq ((State.choose_lean_lean _).trans lean)
  | enterRequest s r => exact h.of_eq (State.askCeiling_lean _)
  | restartBlocks s => exact .of_zero rfl
  | beginSeal page tag _ => exact h.of_eq (State.choose_lean_lean _)
  | reset e => exact .of_zero (congrArg EvalCore.lean e)

/-! ## Engine and hold slot -/

/-- What an engine keeps while it has still to choose: every clause of its soundness but that an IDLE engine has nothing
pending (R30 to R32, R84, R85). -/
structure State.EngineReady (s : State) : Prop where
  depth : s.lean.queue.length ≤ 4
  absorbed : s.engine.ceilingPending → s.engine.ceilingRunning = false
  steps : s.engine.sealPending → s.store.sealRecord ≠ none
  step : ∀ n v, s.engine.running = some ⟨.sealStep n, v⟩ → s.store.sealRecord ≠ none ∧ s.engine.sealPending = false
  timer : s.forwarder.slot ≠ none ↔ s.forwarder.holdTimer ≠ none
  served : s.forwarder.slot ≠ none → s.engine.ceilingPending ∨ s.engine.ceilingRunning

theorem State.EngineSound.ready {s : State} (h : s.EngineSound) : s.EngineReady :=
  ⟨h.depth, h.absorbed, h.steps, h.step, h.timer, h.served⟩

theorem State.EngineReady.sound {s : State} (h : s.EngineReady)
    (idle : s.engine.running = none → s.engine.ceilingPending = false ∧ s.lean.queue = [] ∧ s.engine.sealPending = false) :
    s.EngineSound := ⟨idle, h.depth, h.absorbed, h.steps, h.step, h.timer, h.served⟩

/-- The soundness of the engine is read off the core. -/
theorem State.EngineSound.of_core {s t : State} (h : s.EngineSound) (e : t.evalCore = s.evalCore) : t.EngineSound := by
  have engine : t.engine = s.engine := congrArg EvalCore.engine e
  have queue : t.lean.queue = s.lean.queue := congrArg EvalCore.queue e
  have slot : t.forwarder.slot = s.forwarder.slot := congrArg EvalCore.slot e
  have record : t.store.sealRecord = s.store.sealRecord := congrArg EvalCore.sealRecord e
  have timing : t.forwarder.holdTimer ≠ none ↔ s.forwarder.holdTimer ≠ none := by
    rw [← Option.isSome_iff_ne_none, ← Option.isSome_iff_ne_none]
    exact Bool.eq_iff_iff.1 (congrArg EvalCore.timing e)
  refine ⟨?_, ?_, ?_, ?_, ?_, ?_, ?_⟩ <;> simp only [engine, queue, slot, record, timing]
  · exact h.idle
  · exact h.depth
  · exact h.absorbed
  · exact h.steps
  · exact h.step
  · exact h.timer
  · exact h.served

/-- The choice makes a ready engine sound (R33): it takes the highest job pending, and stays IDLE with nothing pending alone. -/
theorem State.EngineReady.choose {s : State} (h : s.EngineReady) : s.choose.EngineSound := by
  have ready : s.choose.EngineReady := by
    rcases s.choose_cases with ⟨e, _⟩ | ⟨idle, ⟨_, e⟩ | ⟨unasked, ⟨x, rest, queue, e⟩ | ⟨queue, _, r, record, e⟩⟩⟩ <;> rw [e]
    · exact h
    · exact ⟨h.depth, fun asked => (nomatch asked), h.steps, fun _ _ run => (nomatch run), h.timer, fun _ => .inr rfl⟩
    · have depth := h.depth
      rw [queue, List.length_cons] at depth
      have empty : s.forwarder.slot = none := by
        by_contra held
        simpa [unasked, Engine.ceilingRunning_idle idle] using h.served held
      exact ⟨Nat.le_of_succ_le depth, fun _ => rfl, h.steps, fun _ _ run => (nomatch run), h.timer, fun held => absurd empty held⟩
    · have empty : s.forwarder.slot = none := by
        by_contra held
        simpa [unasked, Engine.ceilingRunning_idle idle] using h.served held
      exact ⟨h.depth, fun _ => rfl, fun p => (nomatch p), fun _ _ _ => ⟨by simp [State.startSeal, record], rfl⟩, h.timer,
        fun held => absurd empty held⟩
  refine ready.sound fun idle => ?_
  obtain ⟨e, none⟩ := State.choose_idle h.steps idle
  rw [e]
  exact none

/-- A job's end leaves a sound engine, when no held request waits for the job that ends (R34, R86). -/
theorem State.finishJob_engineSound {s : State} (depth : s.lean.queue.length ≤ 4)
    (steps : s.engine.sealPending → s.store.sealRecord ≠ none)
    (timer : s.forwarder.slot ≠ none ↔ s.forwarder.holdTimer ≠ none)
    (served : s.forwarder.slot ≠ none → s.engine.ceilingPending) : s.finishJob.EngineSound :=
  State.EngineReady.choose ⟨depth, fun _ => rfl, steps, fun _ _ run => (nomatch run), timer, fun held => .inl (served held)⟩

theorem State.EngineSound.finishJob {s : State} (h : s.EngineSound)
    (free : s.engine.ceilingRunning = false ∨ s.forwarder.slot = none) : s.finishJob.EngineSound := by
  refine State.finishJob_engineSound h.depth h.steps h.timer fun held => ?_
  rcases free with other | empty
  · simpa [other] using h.served held
  · exact absurd empty held

/-- A void completion: the job that ends serves no request (R36). -/
theorem State.EngineSound.finishVoid {s : State} (h : s.EngineSound) (ceiling : Bool) (free : s.engine.ceilingRunning = false) :
    (s.finishVoid ceiling).EngineSound :=
  State.finishJob_engineSound h.depth h.steps h.timer fun held => by simpa [free] using h.served held

/-- An answer leaves no request to serve (R89, R90). -/
theorem State.EngineSound.answer {s : State} (h : s.EngineSound) (r : HeldRequest) (late : Bool) : (s.answer r late).EngineSound := by
  have sound : s.emptySlot.EngineSound :=
    ⟨h.idle, h.depth, h.absorbed, h.steps, h.step, by simp [State.emptySlot], fun held => absurd rfl held⟩
  exact sound.of_core (s.evalCore_answer r late)

/-- The end of a SEAL_STEP leaves its next step pending with its record, or neither (R127, R32). -/
theorem State.EngineSound.sealDone {s : State} (h : s.EngineSound) {n : SealSnapshot} {v : Bool} (r : SealRecord)
    (running : s.engine.running = some ⟨.sealStep n, v⟩) : (s.recordStep r n).finishJob.EngineSound := by
  obtain ⟨lean, forwarder, -, -, outcome⟩ := State.recordStep_outcome (s := s) (by simp [running]) r n
  have asked : s.forwarder.slot ≠ none → s.engine.ceilingPending := fun held => by
    simpa [Engine.ceilingRunning, running] using h.served held
  refine State.finishJob_engineSound (by rw [lean]; exact h.depth) ?_ (by rw [forwarder]; exact h.timer) ?_
  · rcases outcome with ⟨_, record⟩ | ⟨engine, _⟩
    · exact fun _ => record
    · rw [engine, (h.step n v running).2]
      exact fun p => nomatch p
  · rw [forwarder]
    rcases outcome with ⟨engine, _⟩ | ⟨engine, _⟩ <;> rw [engine] <;> exact asked

/-- An invalidated estimate: the queue is empty, and only a LEAN job becomes void (R50, R36, R40). -/
theorem State.EngineSound.invalidateLean {s : State} (h : s.EngineSound) : s.invalidateLean.EngineSound := by
  obtain ⟨idle, -, sealStep⟩ := s.engine.voidLean_frame
  have running := s.engine.voidLean_ceilingRunning
  refine ⟨fun none => ?_, Nat.zero_le 4, fun asked => running.trans (h.absorbed asked), h.steps,
    fun n v run => h.step n v ((sealStep n v).1 run), h.timer, fun held => (h.served held).imp id running.trans⟩
  obtain ⟨unasked, -, unsealed⟩ := h.idle (idle.1 none)
  exact ⟨unasked, rfl, unsealed⟩

/-- A sample that joins finds room in the queue, and the engine chooses (R31, R38, R39). -/
theorem State.EngineSound.joinSample {s : State} (h : s.EngineSound) (x : Sample) : (s.joinSample x).EngineSound := by
  obtain ⟨engine, forwarder, store, -, -, -, room⟩ := s.makeRoom_frame
  refine State.EngineReady.choose ⟨?_, ?_, ?_, ?_, ?_, ?_⟩ <;>
    simp only [State.appendSample, engine, forwarder, store]
  · simpa using room h.depth
  · exact h.absorbed
  · exact h.steps
  · exact h.step
  · exact h.timer
  · exact h.served

/-- A request that enters starts its timer and has a CEILING job asked for (R86, R87). -/
theorem State.EngineSound.enterRequest {s : State} (h : s.EngineSound) (r : HeldRequest) : (s.enterRequest r).EngineSound := by
  have timer : (s.forwarder.enter r).slot ≠ none ↔ (s.forwarder.enter r).holdTimer ≠ none := by simp [Forwarder.enter]
  unfold State.enterRequest
  rcases State.askCeiling_cases { s with forwarder := s.forwarder.enter r } with ⟨e, absorbed⟩ | ⟨_, free, e⟩ <;> rw [e]
  · exact ⟨h.idle, h.depth, h.absorbed, h.steps, h.step, timer, fun _ => absorbed⟩
  · exact State.EngineReady.choose ⟨h.depth, fun _ => free, h.steps, h.step, timer, fun _ => .inl rfl⟩

/-- A governor restart empties the queue and the slot, clears the CEILING flag and voids all but a SEAL_STEP (R36, R51, R99). -/
theorem State.EngineSound.restartBlocks {s : State} (h : s.EngineSound) : s.restartBlocks.EngineSound := by
  obtain ⟨idle, -, sealStep⟩ := s.engine.restart_frame
  refine ⟨fun none => ⟨rfl, rfl, ?_⟩, Nat.zero_le 4, fun asked => (nomatch asked), h.steps,
    fun n v run => h.step n v ((sealStep n v).1 run), by simp [State.restartBlocks, Forwarder.restart], fun held => absurd rfl held⟩
  obtain ⟨-, -, unsealed⟩ := h.idle (idle.1 none)
  exact unsealed

/-- A seal begins with its record and its first step pending; no other step runs (R32, R125). -/
theorem State.EngineSound.beginSeal {s : State} (h : s.EngineSound) (page : Nat) (tag : Byte) (free : s.store.sealRecord = none) :
    (s.beginSeal page tag).EngineSound :=
  State.EngineReady.choose ⟨h.depth, h.absorbed, fun _ => by simp, fun n v run => absurd free (h.step n v run).1, h.timer, h.served⟩

/-- The engine after power-on reset. -/
theorem State.reset_engineSound : State.reset.EngineSound :=
  ⟨by decide, by decide, by decide, by decide, fun _ _ run => (nomatch run), by decide, by decide⟩

/-- Every move keeps engine and hold slot sound. -/
theorem EvalMoves.engineSound {s t : State} (m : EvalMoves s t) (h : s.EngineSound) : t.EngineSound := by
  induction m with
  | same e => exact h.of_core e
  | trans _ _ first second => exact second (first h)
  | choose s => exact h.ready.choose
  | finishJob free => exact h.finishJob (free.imp id And.left)
  | finishVoid ceiling free => exact h.finishVoid ceiling free
  | leanWrite s n => exact ⟨h.idle, h.depth, h.absorbed, h.steps, h.step, h.timer, h.served⟩
  | evaluated _ => exact ⟨h.idle, h.depth, h.absorbed, h.steps, h.step, h.timer, h.served⟩
  | answer s r late => exact h.answer r late
  | sealDone r running => exact h.sealDone r running
  | invalidateLean s => exact h.invalidateLean
  | governingLoss s =>
    rw [s.governingLoss_frame.1]
    exact ⟨h.idle, h.depth, h.absorbed, h.steps, h.step, h.timer, h.served⟩
  | joinSample s x => exact h.joinSample x
  | enterRequest s r => exact h.enterRequest r
  | restartBlocks s => exact h.restartBlocks
  | beginSeal page tag free => exact h.beginSeal page tag free
  | reset e => exact State.reset_engineSound.of_core e

/-! ## Traction cut -/

/-- The soundness of the cut is read off the core. -/
theorem State.CutSound.of_core {s t : State} (h : s.CutSound) (e : t.evalCore = s.evalCore) : t.CutSound := by
  have engine : t.engine = s.engine := congrArg EvalCore.engine e
  have cut : t.eval.cut = s.eval.cut := congrArg EvalCore.cut e
  have fold : t.eval.fold = s.eval.fold := congrArg EvalCore.fold e
  have state : t.governor.state = s.governor.state := congrArg EvalCore.state e
  have withdrawn : t.governor.withdrawn = s.governor.withdrawn := congrArg EvalCore.withdrawn e
  refine ⟨?_, ?_, ?_, ?_, ?_⟩ <;> simp only [engine, cut, fold, state, withdrawn]
  · exact h.limit
  · exact h.outside
  · exact h.folded
  · exact h.withdrawn
  · exact h.snapshot

/-- No withdrawal stands while no CEILING job runs unvoided (R111). -/
theorem State.CutSound.not_withdrawn {s : State} (h : s.CutSound) (free : s.engine.ceilingRunning = false) :
    s.governor.withdrawn = false := by
  by_contra withdrawn
  simpa [free] using h.withdrawn (by simpa using withdrawn)

/-- An engine that moves alone keeps the cut, while a withdrawal still has its CEILING job. -/
theorem State.CutSound.withEngine {s : State} (h : s.CutSound) (e : Engine)
    (withdrawn : s.governor.withdrawn → e.ceilingRunning)
    (snapshot : ∀ n v, e.running = some ⟨.ceiling n, v⟩ → n.cut ≤ 250) : ({ s with engine := e } : State).CutSound :=
  ⟨h.limit, h.outside, h.folded, fun w => ⟨(h.withdrawn w).1, withdrawn w⟩, snapshot⟩

/-- The choice keeps the cut: a CEILING job's snapshot takes the cut as it stands, and starts with no withdrawal (R35, R111). -/
theorem State.CutSound.choose {s : State} (h : s.CutSound) : s.choose.CutSound := by
  rcases s.choose_cases with ⟨e, _⟩ | ⟨idle, ⟨_, e⟩ | ⟨_, ⟨x, rest, _, e⟩ | ⟨_, _, r, _, e⟩⟩⟩ <;> rw [e]
  · exact h
  · refine ⟨h.limit, h.outside, h.folded, fun w => (nomatch w), ?_⟩
    rintro _ _ ⟨⟩
    exact h.limit
  all_goals
    have none := h.not_withdrawn (Engine.ceilingRunning_idle idle)
    exact ⟨h.limit, h.outside, h.folded, fun w => by simp [State.startLean, State.startSeal, none] at w, fun _ _ run => nomatch run⟩

/-- The end of a job keeps the cut once no withdrawal stands. -/
theorem State.CutSound.finishJob {s : State} (h : s.CutSound) (none : s.governor.withdrawn = false) : s.finishJob.CutSound :=
  State.CutSound.choose (h.withEngine _ (fun w => by simp [none] at w) (fun _ _ run => nomatch run))

/-- A void completion may clear the fold mark and leaves the cut (R36, R77). -/
theorem State.CutSound.finishVoid {s : State} (h : s.CutSound) (ceiling : Bool) (free : s.engine.ceilingRunning = false) :
    (s.finishVoid ceiling).CutSound := by
  have none := h.not_withdrawn free
  refine State.CutSound.finishJob ⟨h.limit, h.outside, fun f => h.folded ?_, fun w => ?_, h.snapshot⟩ none
  · simp only [Bool.and_eq_true] at f
    exact f.1
  · simp [none] at w

/-- The new cut of an evaluation is at most 250, grown or decayed (R67, R68). -/
theorem CeilingSnapshot.newCut_le {n : CeilingSnapshot} (h : n.cut ≤ 250) (e : GovState) (g : Page) : n.newCut e g ≤ 250 := by
  have decayed : n.cut - g.cutDecay ≤ 250 := Nat.le_trans (Nat.sub_le _ _) h
  unfold CeilingSnapshot.newCut CeilingSnapshot.governCut
  split
  · split
    · split
      · exact Nat.min_le_right _ _
      · exact decayed
    · exact decayed
  · exact Nat.zero_le _

/-- What a CEILING job's results and commit leave of cut, fold mark, state and withdrawal (R69, R74, R77, R78, R110). -/
theorem State.evaluated_cut (s : State) (n : CeilingSnapshot) :
    (s.evaluated n).eval.cut =
      (if s.eval.fold then s.eval.cut else n.newCut (s.decisionOf n).state (s.store.page (s.decisionOf n).page)) ∧
    (s.evaluated n).eval.fold = false ∧
    (s.evaluated n).governor.state = committedState (s.decisionOf n) s.governor.withdrawn s.eval.fold ∧
    (s.evaluated n).governor.withdrawn = false := ⟨rfl, rfl, rfl, rfl⟩

/-- A CEILING job's results and commit keep the cut: a folded job leaves the 0 that stands, and any other commits the decision that
its cut was computed for, as a withdrawal comes with a fold (R69, R77, R78, R111). -/
theorem State.CutSound.evaluated {s : State} (h : s.CutSound) {n : CeilingSnapshot} {v : Bool}
    (running : s.engine.running = some ⟨.ceiling n, v⟩) : (s.evaluated n).CutSound := by
  obtain ⟨cut, fold, state, withdrawn⟩ := s.evaluated_cut n
  refine ⟨?_, ?_, by simp [fold], by simp [withdrawn], h.snapshot⟩
  · rw [cut]
    split
    · exact h.limit
    · exact CeilingSnapshot.newCut_le (h.snapshot n v running) _ _
  · rw [cut, state]
    intro outside
    cases hf : s.eval.fold with
    | true => exact h.folded hf
    | false =>
      have none : s.governor.withdrawn = false := by
        by_contra w
        simpa [hf] using (h.withdrawn (by simpa using w)).1
      have other : (s.decisionOf n).state ≠ .govern := by simpa [committedState, hf, none] using outside
      simp [CeilingSnapshot.newCut, other]

/-- A governing loss clears the cut where it acts, and a withdrawal is of a decision whose CEILING job runs (R111, R112). -/
theorem State.CutSound.governingLoss {s : State} (h : s.CutSound) : s.governingLoss.CutSound := by
  unfold State.governingLoss
  split
  · exact ⟨Nat.zero_le _, fun _ => rfl, fun _ => rfl,
      fun w => ⟨by simp [State.fallToLimp, (h.withdrawn w).1], (h.withdrawn w).2⟩, h.snapshot⟩
  · split
    · rename_i committing
      simp only [State.committingGovern, Bool.and_eq_true] at committing
      obtain ⟨⟨running, -⟩, -⟩ := committing
      exact ⟨Nat.zero_le _, fun _ => rfl, fun _ => rfl, fun _ => ⟨rfl, running⟩, h.snapshot⟩
    · exact h

theorem State.CutSound.invalidateLean {s : State} (h : s.CutSound) : s.invalidateLean.CutSound := by
  obtain ⟨-, ceiling, -⟩ := s.engine.voidLean_frame
  exact ⟨h.limit, h.outside, h.folded, fun w => ⟨(h.withdrawn w).1, s.engine.voidLean_ceilingRunning.trans (h.withdrawn w).2⟩,
    fun n v run => h.snapshot n v ((ceiling n v).1 run)⟩

theorem State.CutSound.sealDone {s : State} (h : s.CutSound) {n : SealSnapshot} {v : Bool} (r : SealRecord)
    (running : s.engine.running = some ⟨.sealStep n, v⟩) : (s.recordStep r n).finishJob.CutSound := by
  obtain ⟨-, -, governor, eval, outcome⟩ := State.recordStep_outcome (s := s) (by simp [running]) r n
  have same : (s.recordStep r n).engine.running = s.engine.running := by
    rcases outcome with ⟨engine, _⟩ | ⟨engine, _⟩ <;> rw [engine]
  have none : s.governor.withdrawn = false := h.not_withdrawn (by simp [Engine.ceilingRunning, running])
  refine State.CutSound.finishJob ?_ (by rw [governor]; exact none)
  refine ⟨?_, ?_, ?_, ?_, ?_⟩ <;> simp only [governor, eval, same]
  · exact h.limit
  · exact h.outside
  · exact h.folded
  · simp [none]
  · exact h.snapshot

/-- A pending CEILING flag, and the choice after it, keep the cut. -/
theorem State.CutSound.askCeiling {s : State} (h : s.CutSound) : s.askCeiling.CutSound := by
  rcases s.askCeiling_cases with ⟨e, _⟩ | ⟨_, _, e⟩ <;> rw [e]
  · exact h
  · exact State.CutSound.choose ⟨h.limit, h.outside, h.folded, h.withdrawn, h.snapshot⟩

theorem State.CutSound.joinSample {s : State} (h : s.CutSound) (x : Sample) : (s.joinSample x).CutSound := by
  obtain ⟨engine, -, -, governor, eval, -, -⟩ := s.makeRoom_frame
  refine State.CutSound.choose ⟨?_, ?_, ?_, ?_, ?_⟩ <;> simp only [State.appendSample, engine, governor, eval]
  · exact h.limit
  · exact h.outside
  · exact h.folded
  · exact h.withdrawn
  · exact h.snapshot

/-- A governor restart clears the cut, the fold mark and the withdrawal (R82, R118). -/
theorem State.CutSound.restartBlocks {s : State} (h : s.CutSound) : s.restartBlocks.CutSound := by
  obtain ⟨-, ceiling, -⟩ := s.engine.restart_frame
  refine ⟨Nat.zero_le _, fun _ => rfl, fun _ => rfl, fun w => (nomatch w), fun n v run => ?_⟩
  obtain ⟨w, run⟩ := ceiling n v run
  exact h.snapshot n w run

/-- The cut after power-on reset. -/
theorem State.reset_cutSound : State.reset.CutSound :=
  ⟨by decide, fun _ => rfl, fun _ => rfl, fun w => (nomatch w), fun _ _ run => (nomatch run)⟩

/-- Every move keeps the cut sound. -/
theorem EvalMoves.cutSound {s t : State} (m : EvalMoves s t) (h : s.CutSound) : t.CutSound := by
  induction m with
  | same e => exact h.of_core e
  | trans _ _ first second => exact second (first h)
  | choose s => exact h.choose
  | finishJob free => exact h.finishJob (free.elim h.not_withdrawn And.right)
  | finishVoid ceiling free => exact h.finishVoid ceiling free
  | leanWrite s n => exact ⟨h.limit, h.outside, h.folded, h.withdrawn, h.snapshot⟩
  | evaluated running => exact h.evaluated running
  | answer s r late =>
    have sound : s.emptySlot.CutSound := ⟨h.limit, h.outside, h.folded, h.withdrawn, h.snapshot⟩
    exact sound.of_core (s.evalCore_answer r late)
  | sealDone r running => exact h.sealDone r running
  | invalidateLean s => exact h.invalidateLean
  | governingLoss s => exact h.governingLoss
  | joinSample s x => exact h.joinSample x
  | enterRequest s r =>
    exact State.CutSound.askCeiling (s := { s with forwarder := s.forwarder.enter r })
      ⟨h.limit, h.outside, h.folded, h.withdrawn, h.snapshot⟩
  | restartBlocks s => exact h.restartBlocks
  | beginSeal page tag _ => exact State.CutSound.choose ⟨h.limit, h.outside, h.folded, h.withdrawn, h.snapshot⟩
  | reset e => exact State.reset_cutSound.of_core e

end Sys2Proof.Machine

namespace Sys2Proof.Proofs
open Sys2Proof.Machine

/-- Settles O56: every step is a chain of moves of the evaluation core, and each move keeps the three. -/
theorem evaluationKept : Obligations.EvaluationKept :=
  ⟨fun _ _ sound h => (EvalMoves.of_step h).engineSound sound, fun _ _ sound h => (EvalMoves.of_step h).leanSound sound,
    fun _ _ sound h => (EvalMoves.of_step h).cutSound sound⟩

end Sys2Proof.Proofs
end

section
/-! What the engine's choice does in each case, what it leaves, and what every completion leaves of the engine before the choice. -/

namespace Sys2Proof.Machine

/-! ## The choice, case by case (R33) -/

theorem State.choose_ceiling {s : State} (idle : s.engine.running = none) (asked : s.engine.ceilingPending) :
    s.choose = s.startCeiling := by simp [State.choose, idle, asked]

theorem State.choose_lean {s : State} {x : Sample} {rest : List Sample} (idle : s.engine.running = none)
    (unasked : s.engine.ceilingPending = false) (queue : s.lean.queue = x :: rest) : s.choose = s.startLean x rest := by
  simp [State.choose, idle, unasked, queue]

theorem State.choose_noSample {s : State} (idle : s.engine.running = none) (unasked : s.engine.ceilingPending = false)
    (queue : s.lean.queue = []) : s.choose = s.chooseSeal := by simp [State.choose, idle, unasked, queue]

/-- The snapshot's nominal period is that of the ENABLED INERTIAL entry (R35). -/
theorem State.nominalPeriod_enabled {s : State} {i : Nat} (h : s.enabledOf .inertial = some i) :
    s.nominalPeriod = (s.route i).fields.nominalPeriod := by simp [State.nominalPeriod, h]

/-- The table of a step by its number (R32). -/
theorem Page.stepTable_eq (p : Page) (step : Nat) :
    p.stepTable step = match step with
      | 1 => p.ceiling
      | 2 => p.slipTarget
      | 3 => p.brake
      | _ => p.scalars := by
  match step with
  | 0 | 1 | 2 | 3 => rfl
  | n + 4 => simp [Page.stepTable]

/-! ## What the choice leaves -/

/-- The choice reaches the engine but for its count of void completions, the sample queue, and of governor control the committing
decision, the withdrawal and the safe-point count (R33, R107). -/
theorem State.choose_leaves (s : State) :
    s.choose = { s with
      engine := s.choose.engine
      lean := { s.lean with queue := s.choose.lean.queue }
      governor := { s.governor with
        committing := s.choose.governor.committing
        withdrawn := s.choose.governor.withdrawn
        counts := s.choose.governor.counts } } ∧
    s.choose.engine.counts.voids = s.engine.counts.voids ∧
    s.choose.governor.counts = { s.governor.counts with safePoints := s.choose.governor.counts.safePoints } := by
  rcases s.choose_cases with ⟨e, _⟩ | ⟨_, ⟨_, e⟩ | ⟨_, ⟨x, rest, _, e⟩ | ⟨_, _, r, _, e⟩⟩⟩ <;> rw [e] <;> exact ⟨rfl, rfl, rfl⟩

/-! ## What a completion is before the engine chooses again -/

/-- The state of a void completion before the engine chooses: the job is left and counted void, the fold mark cleared for a CEILING
job (R36, R77). -/
def State.voided (s : State) (ceiling : Bool) : State :=
  { s with
    engine := { s.engine with running := none, counts := { s.engine.counts with voids := bump s.engine.counts.voids } }
    eval := { s.eval with fold := s.eval.fold && !ceiling } }

theorem State.finishVoid_eq (s : State) (ceiling : Bool) : s.finishVoid ceiling = (s.voided ceiling).choose := rfl

/-- A void completion is the choice on the voided state (R34, R36). -/
theorem exec_void {s : State} {j : Job} {c : Instr} (running : s.engine.running = some ⟨j, true⟩)
    (own : (c = .leanCompletion ∧ ∃ n, j = .lean n) ∨ (c = .ceilingCompletion ∧ ∃ n, j = .ceiling n)) :
    exec c s = .next (s.voided (decide (c = .ceilingCompletion))).choose := by
  rcases own with ⟨rfl, n, rfl⟩ | ⟨rfl, n, rfl⟩
  · simp [exec, execLeanCompletion, running, State.finishVoid_eq]
  · simp [exec, execCeilingCompletion, running, State.finishVoid_eq]

/-- What a completion of a job that is not void hands off before the engine leaves it: all but the next step of a seal stands in
the engine, and the sample queue stands (R34). -/
structure State.HandedOff (s : State) (c : Instr) (u : State) : Prop where
  engine : u.engine = { s.engine with sealPending := u.engine.sealPending }
  pending : c ≠ .sealStepCompletion → u.engine.sealPending = s.engine.sealPending
  queue : u.lean.queue = s.lean.queue
  done : exec c s = .next u.finishJob

theorem State.handedOff_lean {s : State} {n : LeanSnapshot} (running : s.engine.running = some ⟨.lean n, false⟩) :
    s.HandedOff .leanCompletion (s.leanHandOff n) := by
  obtain ⟨engine, queue⟩ := s.leanHandOff_leaves n
  exact ⟨by rw [engine], fun _ => by rw [engine], queue, by simp [exec, execLeanCompletion, running]⟩

theorem State.handedOff_ceiling {s : State} {n : CeilingSnapshot} (running : s.engine.running = some ⟨.ceiling n, false⟩) :
    s.HandedOff .ceilingCompletion (s.ceilingHandOff n) := by
  obtain ⟨engine, queue, -⟩ := s.ceilingHandOff_leaves n
  exact ⟨by rw [engine], fun _ => by rw [engine], queue, by simp [exec, execCeilingCompletion, running]⟩

theorem State.handedOff_sealStep {s : State} {n : SealSnapshot} {r : SealRecord}
    (running : s.engine.running = some ⟨.sealStep n, false⟩) (record : s.store.sealRecord = some r) :
    s.HandedOff .sealStepCompletion (s.recordStep r n) := by
  obtain ⟨lean, -, -, -, outcome⟩ := State.recordStep_outcome (s := s) (by simp [running]) r n
  refine ⟨?_, fun other => absurd rfl other, by rw [lean], by simp [exec, execSealStepCompletion, running, record]⟩
  rcases outcome with ⟨engine, _⟩ | ⟨engine, _⟩ <;> rw [engine]

end Sys2Proof.Machine

namespace Sys2Proof.Proofs
open Sys2Proof.Machine

/-- Settles O18, by the case of the engine's choice. -/
theorem engineChoice : Obligations.EngineChoice := by
  unfold Obligations.EngineChoice
  intro s
  refine ⟨s.choose, rfl, State.choose_busy, ?ceiling, ?lean, ?sealStep, ?nothing⟩
  case ceiling =>
    intro idle asked
    rw [State.choose_ceiling idle asked]
    exact ⟨rfl, rfl, rfl, rfl, rfl⟩
  case lean =>
    intro x rest idle unasked queue
    rw [State.choose_lean idle unasked queue]
    exact ⟨rfl, rfl, s.leanSnapshot x, rfl, rfl, rfl, rfl, rfl, rfl, rfl, rfl, rfl, rfl, fun _ => State.nominalPeriod_enabled⟩
  case sealStep =>
    intro r idle unasked queue pending record
    have e : s.choose = s.startSeal r := by
      rw [State.choose_noSample idle unasked queue]
      simp [State.chooseSeal, pending, record]
    rw [e]
    exact ⟨rfl, rfl, s.sealSnapshot r, rfl, rfl, rfl, rfl, Page.stepTable_eq _ _⟩
  case nothing =>
    intro idle unasked queue done
    rw [State.choose_noSample idle unasked queue]
    simp [State.chooseSeal, done]

/-- Settles O19: a void completion is the engine's choice on the voided state, any other the choice on what its job has handed off. -/
theorem voidCompletionWritesNothing : Obligations.VoidCompletionWritesNothing := by
  unfold Obligations.VoidCompletionWritesNothing
  refine ⟨fun s j c running own => ?void, fun s j c running own => ?done⟩
  case void =>
    obtain ⟨frame, voids, counts⟩ := (s.voided (decide (c = .ceilingCompletion))).choose_leaves
    refine ⟨_, exec_void running own, voids, ?_, ?_, ?_⟩
    · refine frame.trans ?_
      rw [State.choose_eval]
      rfl
    · exact counts
    · have fold : (!decide (c = .ceilingCompletion)) = decide (c ≠ .ceilingCompletion) := by simp
      rw [State.voided, fold]
      rfl
  case done =>
    have handed : ∃ u, s.HandedOff c u := by
      rcases own with ⟨rfl, n, rfl⟩ | ⟨rfl, n, rfl⟩ | ⟨rfl, ⟨n, rfl⟩, record⟩
      · exact ⟨_, State.handedOff_lean running⟩
      · exact ⟨_, State.handedOff_ceiling running⟩
      · obtain ⟨r, record⟩ := Option.ne_none_iff_exists'.1 record
        exact ⟨_, State.handedOff_sealStep running record⟩
    obtain ⟨u, h⟩ := handed
    refine ⟨{ u with engine := { u.engine with running := none } }, u.finishJob, h.done, rfl, ?_, h.pending, h.queue⟩
    rw [h.engine]

end Sys2Proof.Proofs
end

section
/-! A row read on lean: which entries bound it, and where its quotient rounds (R53, R62). -/

namespace Sys2Proof.Machine

/-- A share `f / m` of an amount, rounded toward zero, is between nothing and the whole of it. -/
theorem tdiv_share_of_nonneg {d f m : Int} (nonneg : 0 ≤ d) (low : 0 ≤ f) (whole : f ≤ m) :
    0 ≤ (d * f).tdiv m ∧ (d * f).tdiv m ≤ d := by
  have product : 0 ≤ d * f := Int.mul_nonneg nonneg low
  rw [Int.tdiv_eq_ediv_of_nonneg product]
  refine ⟨Int.ediv_nonneg product (low.trans whole), ?_⟩
  rcases (low.trans whole).eq_or_lt with rfl | pos
  · simpa using nonneg
  · exact Int.ediv_le_of_le_mul pos (Int.mul_le_mul_of_nonneg_left whole nonneg)

/-- A value interpolated between two breakpoints, its quotient rounded toward zero, lies between the two entries, whether the row rises
or falls (R53, R62). -/
theorem interpolated_between (e next : Int) {f m : Int} (low : 0 ≤ f) (whole : f ≤ m) :
    min e next ≤ e + ((next - e) * f).tdiv m ∧ e + ((next - e) * f).tdiv m ≤ max e next := by
  rcases Int.le_total e next with rises | falls
  · have := tdiv_share_of_nonneg (Int.sub_nonneg_of_le rises) low whole
    omega
  · have := tdiv_share_of_nonneg (Int.sub_nonneg_of_le falls) low whole
    rw [← Int.neg_sub next e, Int.neg_mul, Int.neg_tdiv] at this
    omega

/-- At and beyond its last breakpoint a row is its last entry (R53, R62). -/
theorem readRow_beyond {row : List Nat} {last lean : Nat} (beyond : last ≤ lean / 500) :
    readRow row last lean = row.getD last 0 := by simp [readRow, beyond]

/-- Before its last breakpoint a row is the entry at the breakpoint below with a share of the step to the next (R53, R62). The sum is
never below 0, so the natural number read is the sum. -/
theorem readRow_within {row : List Nat} {last lean : Nat} (within : lean / 500 < last) :
    (readRow row last lean : Int) =
      row.getD (lean / 500) 0 +
        (((row.getD (lean / 500 + 1) 0 : Int) - row.getD (lean / 500) 0) * (lean % 500 : Nat)).tdiv 500 := by
  have between := interpolated_between (row.getD (lean / 500) 0) (row.getD (lean / 500 + 1) 0)
    (f := (lean % 500 : Nat)) (m := 500) (by omega) (by omega)
  simp only [readRow, Nat.not_le.mpr within, if_false]
  exact Int.toNat_of_nonneg (by omega)

end Sys2Proof.Machine

namespace Sys2Proof.Proofs
open Sys2Proof.Machine

/-- Settles O22: the natural number read is the interpolated value, which lies between its two entries. -/
theorem rowReadBetweenNeighbours : Obligations.RowReadBetweenNeighbours := by
  unfold Obligations.RowReadBetweenNeighbours
  refine fun row last lean => ⟨readRow_beyond, fun within => ?_⟩
  have read := readRow_within (row := row) within
  have between := interpolated_between (row.getD (lean / 500) 0) (row.getD (lean / 500 + 1) 0)
    (f := (lean % 500 : Nat)) (m := 500) (by omega) (by omega)
  refine ⟨by omega, by omega, fun breakpoint => ?_, read⟩
  rw [breakpoint] at read
  simpa using read

end Sys2Proof.Proofs
end

section
/-! The arithmetic of a LEAN job (R41 to R48): what each of its parts is, in the terms of the manual. -/

namespace Sys2Proof.Machine

/-- A stream is trusted when it is FRESH or STALE (R23). -/
theorem StreamState.trusted_iff (x : StreamState) : x.trusted ↔ x = .fresh ∨ x = .stale := by cases x <;> decide

/-- The reference speed is the front speed when usable, otherwise the rear speed when usable (R24, R43). -/
theorem LeanSnapshot.referenceSpeed_eq (n : LeanSnapshot) :
    n.referenceSpeed =
      if n.front.state = .fresh ∨ n.front.state = .stale then
        n.front.speed.or (if n.rear.state = .fresh ∨ n.rear.state = .stale then n.rear.speed else none)
      else if n.rear.state = .fresh ∨ n.rear.state = .stale then n.rear.speed
      else none := by
  simp only [LeanSnapshot.referenceSpeed, WheelView.usable, ← StreamState.trusted_iff]
  split_ifs <;> cases n.front.speed <;> rfl

/-- The interval is the age of the last sample within 5 to 40 ms, or the nominal period where no sample came before (R41). -/
theorem LeanSnapshot.interval_eq (n : LeanSnapshot) :
    n.interval = match n.tPrev with
      | some t => max 5 (min 40 ((n.sample.stamp - t).toNat : Int))
      | none => n.nominalPeriod := by
  unfold LeanSnapshot.interval
  cases n.tPrev with
  | some t => exact clampInt_eq (by decide) _
  | none => rfl

/-- The reference table rises (R45). -/
theorem leanTable_rises : ∀ i < 60, leanTable.getD i 0 ≤ leanTable.getD (i + 1) 0 := by decide

/-- The table read at an index within its clamp: the last entry at 300, otherwise interpolated (R45). The model's differences of natural
numbers are those of the integers, since the table rises. -/
theorem leanReference_eq {c : Nat} (clamped : c ≤ 300) :
    (leanReference c : Int) =
      if c / 5 = 60 then (leanTable.getD 60 0 : Int)
      else leanTable.getD (c / 5) 0 +
        ((leanTable.getD (c / 5 + 1) 0 - leanTable.getD (c / 5) 0 : Int) * (c % 5 : Nat)).tdiv 5 := by
  by_cases last : c / 5 = 60
  · simp [leanReference, last]
  · have inside : c / 5 < 60 := by omega
    have rises := leanTable_rises (c / 5) inside
    simp only [leanReference, last, Nat.not_le.mpr inside, if_false]
    rw [← Int.ofNat_sub rises, ← Int.natCast_mul, Int.tdiv_eq_ediv_of_nonneg (Int.natCast_nonneg _)]
    rfl

/-- A sign times a size is the size, its negative or 0. -/
theorem sign_mul_eq_ite (c size : Int) : c.sign * size = if c < 0 then -size else if 0 < c then size else 0 := by
  rcases Int.lt_trichotomy c 0 with neg | rfl | pos
  · simp [neg, Int.sign_eq_neg_one_of_neg neg]
  · simp
  · simp [pos, pos.le, not_lt.mpr, Int.sign_eq_one_of_pos pos]

/-- The reference lean: 0 below 10 km/h, otherwise the table read at the centripetal index with the index's sign (R44, R45). -/
theorem referenceLean_eq (yaw : Int) (v : Nat) :
    referenceLean yaw v =
      let c : Int := max (-300) (min 300 ((yaw * v).tdiv 2023))
      let i := c.natAbs / 5
      let size : Int := if i = 60 then leanTable.getD 60 0
        else leanTable.getD i 0 + (((leanTable.getD (i + 1) 0 - leanTable.getD i 0 : Int)) * (c.natAbs % 5 : Nat)).tdiv 5
      if v < 100 then 0 else if c < 0 then -size else if 0 < c then size else 0 := by
  have index : centripetalIndex yaw v = max (-300) (min 300 ((yaw * v).tdiv 2023)) := clampInt_eq (by decide) _
  simp only [referenceLean, sign_mul_eq_ite, index]
  rw [leanReference_eq (by omega)]

/-- The clamp of the blend, and the mark that it was clamped (R48). -/
theorem LeanSnapshot.result_eq (n : LeanSnapshot) :
    n.result = ⟨max (-6500) (min 6500 n.blend), n.valid || n.referenceSpeed.isSome, decide (n.blend < -6500 ∨ 6500 < n.blend),
      n.referenceSpeed.isNone, n.usesSlideGain, !n.valid && n.referenceSpeed.isSome⟩ := by
  have clamp : clampInt (-leanLimit) leanLimit n.blend = max (-6500) (min 6500 n.blend) := clampInt_eq (by decide) _
  have saturates : (max (-6500) (min 6500 n.blend) ≠ n.blend) = (n.blend < -6500 ∨ 6500 < n.blend) := by
    apply propext
    omega
  simp only [LeanSnapshot.result, clamp, saturates]

end Sys2Proof.Machine

namespace Sys2Proof.Proofs
open Sys2Proof.Machine

/-- Settles O20, with a reference speed and without one. -/
theorem leanJobArithmetic : Obligations.LeanJobArithmetic := by
  unfold Obligations.LeanJobArithmetic
  intro n dt predicted speed
  have interval : n.interval = dt := n.interval_eq
  have prediction : n.prediction = predicted := congrArg (fun d => n.lean + (n.sample.roll * d).tdiv 100) interval
  have reference : n.referenceSpeed = speed := n.referenceSpeed_eq
  refine ⟨fun v found => ?_, fun missing => ?_⟩
  · rw [found] at reference
    have slides : n.usesSlideGain = decide (v < 100 ∨ n.slideThreshold < n.sample.lateral.natAbs) := by
      simp [LeanSnapshot.usesSlideGain, reference]
    intro c i size r gain blend
    have blended : n.blend = blend := by
      have lean : referenceLean n.sample.yaw v = r := referenceLean_eq _ v
      have share : (n.gain : Int) = gain := by simp [LeanSnapshot.gain, slides, gain, apply_ite Nat.cast]
      simp only [LeanSnapshot.blend, reference, prediction, lean, share, blend]
    simp [n.result_eq, reference, slides, blended]
  · rw [missing] at reference
    intro blend
    have blended : n.blend = blend := by simp only [LeanSnapshot.blend, reference, prediction, blend]
    have slides : n.usesSlideGain = true := by simp [LeanSnapshot.usesSlideGain, reference]
    simp [n.result_eq, reference, slides, blended]

end Sys2Proof.Proofs
end

section
/-! Packed frames as words: seven packed bytes and a check byte, read most significant byte first (R186, R188). -/

namespace Sys2Proof.Machine

/-- The bytes of a frame, byte 0 first, are the packed word with the check byte below it. -/
theorem foldl_packedBytes (w : BitVec 56) (c : Byte) :
    (packedBytes w ++ [c]).foldl (fun (acc : Nat) b => acc * 256 + b.toNat) 0 = (w ++ c).toNat := by
  have word := w.isLt
  rw [BitVec.toNat_append, ← Nat.shiftLeft_add_eq_or_of_lt c.isLt, Nat.shiftLeft_eq]
  simp only [packedBytes, List.cons_append, List.nil_append, List.foldl_cons, List.foldl_nil, BitVec.extractLsb'_toNat,
    Nat.shiftRight_eq_div_pow]
  omega

/-- A protected frame of packed fields is a word of 64 bits: the fields above the check byte. -/
theorem word_protectedFrame (ident : Ident) (w : BitVec 56) :
    (((protectedFrame ident (packedBytes w)).data.foldl (fun (acc : Nat) b => acc * 256 + b.toNat) 0 : Nat) : BitVec 64) =
      w ++ checkByte ident (packedBytes w) := by
  rw [protectedFrame, foldl_packedBytes]
  simp

/-- Byte 7 of such a frame is the check byte of its bytes 0 to 6 (R12). -/
theorem checkByte_protectedFrame (ident : Ident) (w : BitVec 56) :
    dataByte (protectedFrame ident (packedBytes w)).data 7 = checkByte ident (protectedFrame ident (packedBytes w)).data := rfl

end Sys2Proof.Machine
end

section
/-! The lean report, the decimation and the parts of a LEAN completion (R49, R55 to R58). -/

namespace Sys2Proof.Machine

/-! ## The lean report (R56, R57, R188) -/

/-- Eleven fields set side by side are found at the bits that R188 gives the lean report. -/
theorem reportWord_fields (tenths slip : BitVec 11) (published : BitVec 9) (cut brake : BitVec 8) (state : BitVec 2)
    (valid slipValid summary : Bool) (alive : Alive) (check : Byte) :
    let w := tenths ++ slip ++ published ++ cut ++ brake ++ state ++ BitVec.ofBool valid ++ BitVec.ofBool slipValid ++
      BitVec.ofBool summary ++ alive ++ check
    w.extractLsb' 53 11 = tenths ∧ w.extractLsb' 42 11 = slip ∧ w.extractLsb' 33 9 = published ∧ w.extractLsb' 25 8 = cut ∧
    w.extractLsb' 17 8 = brake ∧ w.extractLsb' 15 2 = state ∧ w.getLsbD 14 = valid ∧ w.getLsbD 13 = slipValid ∧
    w.getLsbD 12 = summary ∧ w.extractLsb' 8 4 = alive := by
  -- The library's lemmas with the lower width named: `simp` does not find a sum of numerals under a width left open.
  have above {v} (w : Nat) (x : BitVec v) (y : BitVec w) := @BitVec.extractLsb'_append_eq_of_le v w x y
  have lowest {v} (w : Nat) (x : BitVec v) (y : BitVec w) := @BitVec.extractLsb'_append_eq_right v w x y
  have bit {v} (w : Nat) (x : BitVec v) (y : BitVec w) i := @BitVec.getLsbD_append v w i x y
  simp [-BitVec.getLsbD_eq_getElem, above 1, above 2, above 4, above 8, above 9, above 11, lowest 2, lowest 4, lowest 8, lowest 9,
    lowest 11, bit 1, bit 4, bit 8]

/-- The fields of the lean report, at their bits (R188). -/
theorem State.leanReport_fields (s : State) :
    let w : BitVec 64 := (s.leanReport.data.foldl (fun (acc : Nat) b => acc * 256 + b.toNat) 0 : Nat)
    w.extractLsb' 53 11 = BitVec.ofInt 11 (leanTenths s.lean.lean) ∧
    w.extractLsb' 42 11 = BitVec.ofInt 11 s.eval.slip ∧
    w.extractLsb' 33 9 = BitVec.ofNat 9 s.eval.published ∧
    w.extractLsb' 25 8 = BitVec.ofNat 8 s.eval.cut ∧
    w.extractLsb' 17 8 = BitVec.ofNat 8 s.brakeCeiling ∧
    w.extractLsb' 15 2 = BitVec.ofNat 2 s.governor.state.code ∧
    w.getLsbD 14 = s.lean.valid ∧ w.getLsbD 13 = s.eval.slipValid ∧ w.getLsbD 12 = s.faults.summary ∧
    w.extractLsb' 8 4 = s.lean.reportAlive := by
  intro w
  have word : w = _ := word_protectedFrame leanReportId _
  rw [word]
  exact reportWord_fields ..

/-- The lean of a report, within its clamp, reads back from 11 bits (R48, R188). -/
theorem toInt_leanTenths {x : Int} (low : -6500 ≤ x) (high : x ≤ 6500) : (BitVec.ofInt 11 (leanTenths x)).toInt = x.tdiv 10 := by
  have tenths : -1024 ≤ x.tdiv 10 ∧ x.tdiv 10 < 1024 := by
    have sign : Int.sign 10 = 1 := rfl
    rw [Int.tdiv_eq_ediv]
    split <;> omega
  rw [leanTenths, BitVec.toInt_ofInt_eq_self (by decide)] <;> omega

theorem bumpBy_eq (n k : Nat) : bumpBy n k = min (n + k) 65535 := rfl

/-- A report sent: its copies are offered and counted, and the alive counter advances once (R57, R58). -/
theorem State.sendReport_eq (s : State) :
    s.sendReport = { s with
      lean := { s.lean with
        reportAlive := s.lean.reportAlive + 1
        counts := { s.lean.counts with
          reportCopies := bumpBy s.lean.counts.reportCopies (if s.store.chassis.reportToA then 2 else 1) } }
      portA := if s.store.chassis.reportToA then s.portA.offer .q2 s.leanReport else s.portA
      portB := s.portB.offer .q2 s.leanReport } := by
  unfold State.sendReport
  cases s.store.chassis.reportToA <;> rfl

/-! ## The decimation (R55) -/

theorem State.decimate_waits {s : State} (h : s.lean.decimation + 1 < s.store.chassis.decimation) :
    s.decimate = { s with lean := { s.lean with decimation := s.lean.decimation + 1 } } := by
  simp [State.decimate, Nat.not_le.mpr h]

/-- At N the count starts again and the report is sent, of the blocks as they stand (R55 to R58). -/
theorem State.decimate_due {s : State} (h : s.store.chassis.decimation ≤ s.lean.decimation + 1) :
    s.decimate = { s with
      lean := { s.lean with
        decimation := 0
        reportAlive := s.lean.reportAlive + 1
        counts := { s.lean.counts with
          reportCopies := bumpBy s.lean.counts.reportCopies (if s.store.chassis.reportToA then 2 else 1) } }
      portA := if s.store.chassis.reportToA then s.portA.offer .q2 s.leanReport else s.portA
      portB := s.portB.offer .q2 s.leanReport } := by
  simp only [State.decimate, h, if_true, State.sendReport_eq]
  rfl

/-- The decimation reaches its own count, the report's alive counter and copies, and the two ports (R55, R57, R58). -/
theorem State.decimate_frame (s : State) :
    s.decimate = { s with
      lean := { s.lean with
        decimation := s.decimate.lean.decimation
        reportAlive := s.decimate.lean.reportAlive
        counts := { s.lean.counts with reportCopies := s.decimate.lean.counts.reportCopies } }
      portA := s.decimate.portA
      portB := s.decimate.portB } := by
  rcases Nat.lt_or_ge (s.lean.decimation + 1) s.store.chassis.decimation with waits | due
  · rw [State.decimate_waits waits]
  · rw [State.decimate_due due]

@[simp] theorem State.decimate_eval (s : State) : s.decimate.eval = s.eval := by rw [State.decimate_frame]
@[simp] theorem State.decimate_governor (s : State) : s.decimate.governor = s.governor := by rw [State.decimate_frame]
@[simp] theorem State.decimate_forwarder (s : State) : s.decimate.forwarder = s.forwarder := by rw [State.decimate_frame]
@[simp] theorem State.decimate_store (s : State) : s.decimate.store = s.store := by rw [State.decimate_frame]
@[simp] theorem State.decimate_routes (s : State) : s.decimate.routes = s.routes := by rw [State.decimate_frame]
@[simp] theorem State.decimate_commands (s : State) : s.decimate.commands = s.commands := by rw [State.decimate_frame]
@[simp] theorem State.decimate_now (s : State) : s.decimate.now = s.now := by rw [State.decimate_frame]
@[simp] theorem State.decimate_faults (s : State) : s.decimate.faults = s.faults := by rw [State.decimate_frame]
@[simp] theorem State.decimate_lean_lean (s : State) : s.decimate.lean.lean = s.lean.lean := by rw [State.decimate_frame]
@[simp] theorem State.decimate_lean_valid (s : State) : s.decimate.lean.valid = s.lean.valid := by rw [State.decimate_frame]
@[simp] theorem State.decimate_lean_saturated (s : State) : s.decimate.lean.saturated = s.lean.saturated := by rw [State.decimate_frame]
@[simp] theorem State.decimate_lean_tPrev (s : State) : s.decimate.lean.tPrev = s.lean.tPrev := by rw [State.decimate_frame]
@[simp] theorem State.decimate_lean_counts_referenceUnavailable (s : State) :
    s.decimate.lean.counts.referenceUnavailable = s.lean.counts.referenceUnavailable := by rw [State.decimate_frame]
@[simp] theorem State.decimate_lean_counts_slideGain (s : State) :
    s.decimate.lean.counts.slideGain = s.lean.counts.slideGain := by rw [State.decimate_frame]
@[simp] theorem State.decimate_lean_counts_fullTake (s : State) :
    s.decimate.lean.counts.fullTake = s.lean.counts.fullTake := by rw [State.decimate_frame]
@[simp] theorem State.stream_decimate (s : State) (i : StreamId) : s.decimate.stream i = s.stream i := by
  rw [State.decimate_frame]
  cases i <;> rfl

/-! ## The end of a job (R34) -/

@[simp] theorem State.finishJob_now (s : State) : s.finishJob.now = s.now := State.choose_now _
@[simp] theorem State.finishJob_routes (s : State) : s.finishJob.routes = s.routes := State.choose_routes _
@[simp] theorem State.finishJob_eval (s : State) : s.finishJob.eval = s.eval := State.choose_eval _
@[simp] theorem State.finishJob_forwarder (s : State) : s.finishJob.forwarder = s.forwarder := State.choose_forwarder _
@[simp] theorem State.finishJob_store (s : State) : s.finishJob.store = s.store := State.choose_store _
@[simp] theorem State.finishJob_portA (s : State) : s.finishJob.portA = s.portA := State.choose_portA _
@[simp] theorem State.finishJob_portB (s : State) : s.finishJob.portB = s.portB := State.choose_portB _
@[simp] theorem State.finishJob_faults (s : State) : s.finishJob.faults = s.faults := State.choose_faults _
@[simp] theorem State.finishJob_commands (s : State) : s.finishJob.commands = s.commands := State.choose_commands _
@[simp] theorem State.finishJob_governor_state (s : State) : s.finishJob.governor.state = s.governor.state := State.choose_governor_state _
@[simp] theorem State.finishJob_governor_applied (s : State) : s.finishJob.governor.applied = s.governor.applied :=
  State.choose_governor_applied _
@[simp] theorem State.finishJob_governor_appliedPage (s : State) : s.finishJob.governor.appliedPage = s.governor.appliedPage :=
  State.choose_governor_appliedPage _
@[simp] theorem State.finishJob_lean_lean (s : State) : s.finishJob.lean.lean = s.lean.lean := State.choose_lean_lean _
@[simp] theorem State.finishJob_lean_valid (s : State) : s.finishJob.lean.valid = s.lean.valid := State.choose_lean_valid _
@[simp] theorem State.finishJob_lean_tPrev (s : State) : s.finishJob.lean.tPrev = s.lean.tPrev := State.choose_lean_tPrev _
@[simp] theorem State.finishJob_lean_saturated (s : State) : s.finishJob.lean.saturated = s.lean.saturated := State.choose_lean_saturated _
@[simp] theorem State.finishJob_lean_decimation (s : State) : s.finishJob.lean.decimation = s.lean.decimation :=
  State.choose_lean_decimation _
@[simp] theorem State.finishJob_lean_reportAlive (s : State) : s.finishJob.lean.reportAlive = s.lean.reportAlive :=
  State.choose_lean_reportAlive _
@[simp] theorem State.finishJob_lean_counts (s : State) : s.finishJob.lean.counts = s.lean.counts := State.choose_lean_counts _
@[simp] theorem State.stream_finishJob (s : State) (i : StreamId) : s.finishJob.stream i = s.stream i := by
  cases i <;> simp [State.stream, State.finishJob]

/-! ## The completion (R48, R49) -/

/-- The completion between the fault unit's view of LEAN_SATURATION and the decimation (R49). -/
def State.leanTold (s : State) (n : LeanSnapshot) : State :=
  ({ s with lean := s.lean.write n } : State).handOff ({ s with lean := s.lean.write n } : State).saturationHandOff

theorem State.leanHandOff_eq (s : State) (n : LeanSnapshot) : s.leanHandOff n = (s.leanTold n).decimate := rfl

@[simp] theorem State.leanTold_lean (s : State) (n : LeanSnapshot) : (s.leanTold n).lean = s.lean.write n := rfl
@[simp] theorem State.leanTold_eval (s : State) (n : LeanSnapshot) : (s.leanTold n).eval = s.eval := rfl
@[simp] theorem State.leanTold_forwarder (s : State) (n : LeanSnapshot) : (s.leanTold n).forwarder = s.forwarder := rfl
@[simp] theorem State.leanTold_governor (s : State) (n : LeanSnapshot) : (s.leanTold n).governor = s.governor := rfl
@[simp] theorem State.leanTold_store (s : State) (n : LeanSnapshot) : (s.leanTold n).store = s.store := rfl
@[simp] theorem State.leanTold_routes (s : State) (n : LeanSnapshot) : (s.leanTold n).routes = s.routes := rfl
@[simp] theorem State.leanTold_portB (s : State) (n : LeanSnapshot) : (s.leanTold n).portB = s.portB := rfl
@[simp] theorem State.leanTold_commands (s : State) (n : LeanSnapshot) : (s.leanTold n).commands = s.commands := rfl
@[simp] theorem State.leanTold_now (s : State) (n : LeanSnapshot) : (s.leanTold n).now = s.now := rfl
@[simp] theorem State.stream_leanTold (s : State) (n : LeanSnapshot) (i : StreamId) : (s.leanTold n).stream i = s.stream i :=
  State.stream_handOff _ _ i

/-- A hand-off reads of the estimator its estimate alone (R165). -/
theorem State.handOff_withLean (s : State) {l m : LeanState} (same : l.lean = m.lean) (h : HandOff) :
    ({ s with lean := l } : State).handOff h = { ({ s with lean := m } : State).handOff h with lean := l } := by
  simp only [State.handOff, State.withFaultSide, State.faultSide, State.faultEnv, same]

/-- What the fault unit is told is fixed by the estimate and the saturation flag that the completion writes (R48, R157). -/
theorem State.leanTold_of_written (s : State) {n : LeanSnapshot} {l : LeanState} (lean : l.lean = n.result.lean)
    (saturated : l.saturated = n.result.saturated) :
    ({ s with lean := l } : State).handOff
        (if l.saturated then .present .leanSaturation (s.routeSource .inertial) (BitVec.ofInt 16 l.lean) else .absent .leanSaturation) =
      { s.leanTold n with lean := l } := by
  rw [saturated, lean, State.handOff_withLean s (m := s.lean.write n) lean]
  rfl

/-- Before N completions have passed, a completion sends no report (R55). -/
theorem State.leanHandOff_waits {s : State} (n : LeanSnapshot) (waits : s.lean.decimation + 1 < s.store.chassis.decimation) :
    s.leanHandOff n = { s.leanTold n with lean := { s.lean.write n with decimation := s.lean.decimation + 1 } } :=
  State.decimate_waits (s := s.leanTold n) waits

/-- At N the completion sends the report of what it has written and told (R55 to R58). -/
theorem State.leanHandOff_due {s : State} (n : LeanSnapshot) (due : s.store.chassis.decimation ≤ s.lean.decimation + 1) :
    s.leanHandOff n = { s.leanTold n with
      lean := { s.lean.write n with
        decimation := 0
        reportAlive := s.lean.reportAlive + 1
        counts := { (s.lean.write n).counts with
          reportCopies := bumpBy s.lean.counts.reportCopies (if s.store.chassis.reportToA then 2 else 1) } }
      portA := if s.store.chassis.reportToA then (s.leanTold n).portA.offer .q2 (s.leanTold n).leanReport else (s.leanTold n).portA
      portB := s.portB.offer .q2 (s.leanTold n).leanReport } :=
  State.decimate_due (s := s.leanTold n) due

end Sys2Proof.Machine

namespace Sys2Proof.Proofs
open Sys2Proof.Machine

/-- Settles O21: the completion is the writes, the hand-off of LEAN_SATURATION and the decimation, and the engine's choice after them
moves nothing that the statement names. -/
theorem leanCompletion : Obligations.LeanCompletion := by
  unfold Obligations.LeanCompletion
  refine ⟨fun s n running => ⟨_, (State.handedOff_lean running).done, ?writes⟩,
    fun s n running => ⟨_, (State.handedOff_lean running).done, ?report⟩⟩
  case writes => simp [State.leanHandOff_eq, LeanState.write, bumpIf]
  case report =>
    have lean : (s.leanHandOff n).finishJob.lean.lean = n.result.lean := by simp [State.leanHandOff_eq, LeanState.write]
    have valid : (s.leanHandOff n).finishJob.lean.valid = n.result.valid := by simp [State.leanHandOff_eq, LeanState.write]
    have saturated : (s.leanHandOff n).finishJob.lean.saturated = n.result.saturated := by
      simp [State.leanHandOff_eq, LeanState.write]
    have faults : (s.leanHandOff n).finishJob.faults = (s.leanTold n).faults := by simp [State.leanHandOff_eq]
    intro told
    have told_eq : told = { s.leanTold n with lean := (s.leanHandOff n).finishJob.lean } := s.leanTold_of_written lean saturated
    rw [told_eq]
    refine ⟨faults, fun waits => ?_, fun due => ?_⟩
    · simp [State.leanHandOff_waits n waits, LeanState.write]
    · have sent := State.leanHandOff_due n due
      refine ⟨by simp [sent], by simp [sent], by simp [sent, bumpBy_eq], (s.leanTold n).leanReport, by simp [sent], by simp [sent],
        rfl, rfl, ?_⟩
      obtain ⟨tenths, slip, published, cut, brake, state, validBit, slipValid, summary, alive⟩ := (s.leanTold n).leanReport_fields
      rw [lean, valid, faults]
      refine ⟨?tenths, slip, published, cut, brake, ?state, validBit, slipValid, summary, alive, checkByte_protectedFrame _ _⟩
      case tenths =>
        obtain ⟨low, high⟩ := n.result_bounds
        exact (congrArg BitVec.toInt tenths).trans (toInt_leanTenths low high)
      case state =>
        refine (congrArg BitVec.toNat state).trans ?_
        rw [State.leanTold_governor]
        cases s.governor.state <;> rfl

end Sys2Proof.Proofs
end

section
/-! What the seal checks bound (R126), and the ceiling of an evaluation within the hard ceiling of its page (R70 to R73, R78). -/

namespace Sys2Proof.Machine

/-! ## What a passed step says of its entries (R126) -/

/-- In a passed step every entry passes its own checks, whatever entry stood before it. -/
theorem sealScan_entry {step hard : Nat} {entries : List Nat} {start : Nat} {before : Option Nat}
    (passes : sealScan step hard start before entries = none) {i v : Nat} (entry : entries[i]? = some v) :
    ∃ b, sealCheckEntry step hard (start + i) v b = none := by
  induction entries generalizing start before i with
  | nil => simp at entry
  | cons x xs ih =>
    simp only [sealScan] at passes
    split at passes
    · exact nomatch passes
    · rename_i passed
      cases i with
      | zero =>
        obtain rfl : x = v := by simpa using entry
        exact ⟨before, passed⟩
      | succ i =>
        obtain ⟨b, hb⟩ := ih passes (by simpa using entry)
        exact ⟨b, by rwa [show start + 1 + i = start + (i + 1) by omega] at hb⟩

/-- The bound check: an entry of the ceiling row, and the limp ceiling, are within the hard ceiling. -/
theorem sealCheckEntry_bound {step hard index v : Nat} {before : Option Nat}
    (passed : sealCheckEntry step hard index v before = none) (bounded : step = 1 ∨ step = 4 ∧ index = 6) : v ≤ hard := by
  by_contra above
  have above : hard < v := Nat.lt_of_not_le above
  rcases bounded with rfl | ⟨rfl, rfl⟩
  all_goals
    simp only [sealCheckEntry, above] at passed
    split at passed <;> simp at passed

/-- The ceiling row of a page that passes step 1 is within its hard ceiling. -/
theorem Page.Passes.ceiling_le {p : Page} (passes : p.Passes 1) (i : Nat) : p.ceiling.getD i 0 ≤ p.hardCeiling := by
  cases entry : p.ceiling[i]? with
  | none => simp [List.getD_eq_getElem?_getD, entry]
  | some v =>
    obtain ⟨_, passed⟩ := sealScan_entry passes (i := i) (v := v) entry
    simpa [List.getD_eq_getElem?_getD, entry] using sealCheckEntry_bound passed (.inl rfl)

/-- The limp ceiling of a page that passes step 4 is within its hard ceiling. -/
theorem Page.Passes.limp_le {p : Page} (passes : p.Passes 4) : p.limpCeiling ≤ p.hardCeiling := by
  cases entry : p.scalars[6]? with
  | none => simp [Page.limpCeiling, List.getD_eq_getElem?_getD, entry]
  | some v =>
    obtain ⟨_, passed⟩ := sealScan_entry passes (i := 6) (v := v) entry
    simpa [Page.limpCeiling, List.getD_eq_getElem?_getD, entry] using sealCheckEntry_bound passed (.inr ⟨rfl, rfl⟩)

/-! ## The ceiling of an evaluation (R70 to R73) -/

/-- A row read on lean is within what bounds its entries (R53, R62). -/
theorem readRow_le {row : List Nat} {b : Nat} (bounded : ∀ i, row.getD i 0 ≤ b) (last lean : Nat) : readRow row last lean ≤ b := by
  rcases Nat.lt_or_ge (lean / 500) last with within | beyond
  · have read := readRow_within (row := row) within
    have between := interpolated_between (row.getD (lean / 500) 0) (row.getD (lean / 500 + 1) 0)
      (f := (lean % 500 : Nat)) (m := 500) (by omega) (by omega)
    have here := bounded (lean / 500)
    have next := bounded (lean / 500 + 1)
    omega
  · rw [readRow_beyond beyond]
    exact bounded last

/-- The limp bound is within the limp ceiling, whether or not the lean ceiling bounds it too (R71). -/
theorem CeilingSnapshot.limpBound_le (n : CeilingSnapshot) (g : Page) : n.limpBound g ≤ g.limpCeiling := by
  unfold CeilingSnapshot.limpBound
  split
  · exact Nat.min_le_right _ _
  · exact Nat.le_refl _

/-- In every governor state the ceiling is within the hard ceiling of a page that passes its checks (R70 to R72). -/
theorem CeilingSnapshot.ceiling_le_hard (n : CeilingSnapshot) (e : GovState) {g : Page} (row : g.Passes 1) (scalars : g.Passes 4) :
    n.ceiling e g ≤ g.hardCeiling := by
  have limp : n.limpBound g ≤ g.hardCeiling := (n.limpBound_le g).trans scalars.limp_le
  cases e with
  | govern => exact (Nat.sub_le _ _).trans (readRow_le row.ceiling_le 12 _)
  | start => exact limp
  | limp => exact limp
  | bypass => exact Nat.le_refl _

/-- What is published is within the ceiling, folded or not (R73, R78). -/
theorem CeilingSnapshot.published_le (n : CeilingSnapshot) (e : GovState) (g : Page) (folded : Bool) (cut : Nat) :
    (n.result e g folded cut).published ≤ n.ceiling e g := by
  cases folded with
  | true => exact (Nat.min_le_left _ _).trans (Nat.min_le_left _ _)
  | false => exact Nat.min_le_left _ _

end Sys2Proof.Machine
end

section
/-! The part of the state that the soundness of the page store turns on, and the operations that leave it as it is. -/

namespace Sys2Proof.Machine

/-! ## The page core -/

/-- The snapshot of the SEAL_STEP that runs, if one does. -/
def Engine.sealRunning (e : Engine) : Option SealSnapshot :=
  match e.running with
  | some ⟨.sealStep n, _⟩ => some n
  | _ => none

theorem Engine.sealRunning_iff (e : Engine) (n : SealSnapshot) :
    e.sealRunning = some n ↔ ∃ v, e.running = some ⟨.sealStep n, v⟩ := by
  unfold Engine.sealRunning
  split
  · rename_i running
    simp [running]
  · rename_i other
    simpa using fun v running => other n v running

/-- The parts of the state that the soundness of the page store reads. -/
structure PageCore where
  pages : List Page
  sealRecord : Option SealRecord
  pageMap : List Nat
  sealRunning : Option SealSnapshot
  ceilingRunning : Bool
  appliedPage : Nat
  committing : Option Decision
  published : Nat

/-- The page core of a state. -/
def State.pageCore (s : State) : PageCore where
  pages := s.store.pages
  sealRecord := s.store.sealRecord
  pageMap := s.store.pageMap
  sealRunning := s.engine.sealRunning
  ceilingRunning := s.engine.ceilingRunning
  appliedPage := s.governor.appliedPage
  committing := s.governor.committing
  published := s.eval.published

/-- The soundness of the page store is read off the core. -/
theorem State.PagesSound.of_core {s t : State} (h : s.PagesSound) (e : t.pageCore = s.pageCore) : t.PagesSound := by
  have pages : t.store.pages = s.store.pages := congrArg PageCore.pages e
  have record : t.store.sealRecord = s.store.sealRecord := congrArg PageCore.sealRecord e
  have map : t.store.pageMap = s.store.pageMap := congrArg PageCore.pageMap e
  have sealRunning : t.engine.sealRunning = s.engine.sealRunning := congrArg PageCore.sealRunning e
  have ceilingRunning : t.engine.ceilingRunning = s.engine.ceilingRunning := congrArg PageCore.ceilingRunning e
  have applied : t.governor.appliedPage = s.governor.appliedPage := congrArg PageCore.appliedPage e
  have committing : t.governor.committing = s.governor.committing := congrArg PageCore.committing e
  have published : t.eval.published = s.eval.published := congrArg PageCore.published e
  have page : ∀ i, t.store.page i = s.store.page i := fun i => by rw [PageStore.page, PageStore.page, pages]
  have sealed : ∀ i, t.Sealed i ↔ s.Sealed i := fun i => by rw [State.Sealed, State.Sealed, page]
  refine ⟨?_, ?_, ?_, ?_, ?_, ?_, fun n v running => ?_, ?_, ?_, ?_, ?_, ?_⟩ <;>
    simp only [pages, record, map, ceilingRunning, applied, committing, published, page, sealed, State.appliedPage]
  · exact h.length
  · exact h.rom
  · exact h.shaped
  · exact h.passed
  · exact h.sealing
  · exact h.record
  · obtain ⟨v, running⟩ := (s.engine.sealRunning_iff n).1 (sealRunning.symm.trans ((t.engine.sealRunning_iff n).2 ⟨v, running⟩))
    simp only [State.sealSnapshot, page]
    exact h.running n v running
  · exact h.mapLength
  · exact h.mapped
  · exact h.applied
  · exact h.committing
  · exact h.published

/-! ## Frames, reports and the answer to a held request -/

theorem State.pageCore_forwardFrame (s : State) (i : Nat) (p : PortId) (e : RouteFields) (f : Frame) :
    (s.forwardFrame i p e f).pageCore = s.pageCore := by
  unfold State.forwardFrame
  split <;> simp [State.pageCore]

theorem State.pageCore_forwardConsumed (s : State) (k : StreamId) (i : Nat) (p : PortId) (e : RouteFields) (f : Frame) :
    (s.forwardConsumed k i p e f).pageCore = s.pageCore := by
  unfold State.forwardConsumed
  split
  · rfl
  · exact s.pageCore_forwardFrame i p e f

theorem State.pageCore_unknownFrame (s : State) (p : PortId) (f : Frame) : (s.unknownFrame p f).pageCore = s.pageCore := by
  unfold State.unknownFrame
  split <;> simp [State.pageCore]

theorem State.pageCore_decimate (s : State) : s.decimate.pageCore = s.pageCore := by
  unfold State.decimate State.sendReport
  split
  · simp only
    split <;> simp [State.pageCore]
  · rfl

theorem State.pageCore_leanHandOff (s : State) (n : LeanSnapshot) : (s.leanHandOff n).pageCore = s.pageCore :=
  State.pageCore_decimate (s.leanTold n)

theorem State.pageCore_answer (s : State) (h : HeldRequest) (late : Bool) : (s.answer h late).pageCore = s.pageCore := by
  unfold State.answer
  simp only
  split <;> simp [State.pageCore]

theorem State.pageCore_answerAtCompletion (s : State) : s.answerAtCompletion.pageCore = s.pageCore := by
  rcases s.answerAtCompletion_cases with ⟨h, _, e⟩ | ⟨_, e⟩ <;> rw [e]
  exact s.pageCore_answer h false

theorem State.pageCore_expireHold (s : State) : s.expireHold.pageCore = s.pageCore := by
  rcases s.expireHold_cases with ⟨_, e⟩ | ⟨_, h, _, e⟩ <;> rw [e]
  exact s.pageCore_answer h true

theorem State.pageCore_idle (s : State) : s.idle.pageCore = s.pageCore := by
  rcases s.idle_cases with ⟨_, e⟩ | ⟨_, e⟩ <;> rw [e]
  · exact s.pageCore_expireHold
  · rfl

/-! ## The ports' attempts and recovery -/

theorem State.pageCore_transmitSuccess (s : State) (p : PortId) : (s.transmitSuccess p).pageCore = s.pageCore := by
  unfold State.transmitSuccess State.portAbsent
  simp only
  split <;> simp [State.pageCore]

theorem State.pageCore_giveUpFrame (s : State) (p : PortId) : (s.giveUpFrame p).pageCore = s.pageCore := by
  unfold State.giveUpFrame State.portPresent
  simp only
  split <;> simp [State.pageCore]

theorem State.pageCore_transmitFailure (s : State) (p : PortId) (f : SlotFrame) : (s.transmitFailure p f).pageCore = s.pageCore := by
  unfold State.transmitFailure State.portPresent
  simp only
  split
  · simp [State.pageCore]
  · split
    · simp [State.pageCore]
    · rw [State.pageCore_giveUpFrame]
      simp [State.pageCore]

theorem State.pageCore_recoverPort (s : State) (p : PortId) : (s.recoverPort p).pageCore = s.pageCore := by
  unfold State.recoverPort State.portAbsent
  cases p <;> simp [State.pageCore]

/-! ## A moved stream (R23) -/

/-- The void mark of a LEAN job leaves which other job runs (R36). -/
theorem Engine.voidLean_sealRunning (e : Engine) : e.voidLean.sealRunning = e.sealRunning := by
  unfold Engine.voidLean Engine.sealRunning
  rcases e.running with _ | ⟨_ | _ | _, v⟩ <;> rfl

theorem State.pageCore_invalidateLean (s : State) : s.invalidateLean.pageCore = s.pageCore := by
  simp only [State.pageCore, State.invalidateLean, Engine.voidLean_sealRunning, Engine.voidLean_ceilingRunning]

theorem State.pageCore_governingLoss (s : State) : s.governingLoss.pageCore = s.pageCore := by
  rcases s.governingLoss_cases with e | e | e <;> rw [e] <;> rfl

theorem State.pageCore_leaveTrusted (s : State) (i : StreamId) : (s.leaveTrusted i).pageCore = s.pageCore := by
  cases i with
  | inertial => exact (State.pageCore_governingLoss _).trans s.pageCore_invalidateLean
  | wheelFront => exact s.pageCore_governingLoss
  | wheelRear => exact s.pageCore_governingLoss
  | torqueRequest => rfl
  | riderSelect => rfl

theorem State.pageCore_moveStream (s : State) (i : StreamId) (source : Source) (r : StreamRecord) :
    (s.moveStream i source r).1.pageCore = s.pageCore := by
  have set : (s.setStream i r).pageCore = s.pageCore := by simp [State.pageCore]
  rw [State.moveStream_fst]
  split
  · exact (State.pageCore_leaveTrusted _ i).trans set
  · exact set

theorem pageCore_floods (xs : List (Nat × RouteEntry)) (acc : State × List HandOff) :
    (xs.foldl floodEntry acc).1.pageCore = acc.1.pageCore := by
  induction xs generalizing acc with
  | nil => rfl
  | cons x xs ih =>
    refine (ih _).trans ?_
    unfold floodEntry
    simp only
    split
    · rfl
    · exact State.pageCore_moveStream _ _ _ _

theorem State.pageCore_windowExpiry (s : State) : s.windowExpiry.pageCore = s.pageCore := pageCore_floods _ _

theorem State.pageCore_rejectFrame (s : State) (i : StreamId) (index : Nat) (cls : FaultClass) (value : Half) :
    (s.rejectFrame i index cls value).pageCore = s.pageCore := State.pageCore_moveStream _ _ _ _

theorem State.pageCore_recordAccepted (s : State) (i : StreamId) (index : Nat) (e : RouteFields) (f : Frame) (v : Values)
    (sequenceError : Bool) : (s.recordAccepted i index e f v sequenceError).pageCore = s.pageCore :=
  State.pageCore_moveStream _ _ _ _

/-! ## The owners' answers that leave the core as it is -/

theorem State.pageCore_writeRoute (s : State) (entry field v : Nat) : (s.writeRoute entry field v).state.pageCore = s.pageCore := by
  unfold State.writeRoute
  repeat' split
  all_goals rfl

theorem State.pageCore_enableRouteAt (s : State) (entry : Nat) : (s.enableRouteAt entry).state.pageCore = s.pageCore := by
  unfold State.enableRouteAt
  repeat' split
  all_goals rfl

theorem State.pageCore_disableEnabled (s : State) (entry : Nat) : (s.disableEnabled entry).pageCore = s.pageCore := by
  unfold State.disableEnabled
  simp only
  split
  · rfl
  · exact State.pageCore_moveStream _ _ _ _

theorem State.pageCore_disableRouteAt (s : State) (entry : Nat) : (s.disableRouteAt entry).state.pageCore = s.pageCore := by
  unfold State.disableRouteAt
  split
  · rfl
  · split
    · exact s.pageCore_disableEnabled entry
    · rfl
    · rfl

theorem State.pageCore_writeChassis (s : State) (n : Nat) (v : Half) : (s.writeChassis n v).state.pageCore = s.pageCore := by
  unfold State.writeChassis State.alertMapWritten
  repeat' split
  all_goals rfl

theorem State.pageCore_setMonitor (s : State) (value : Nat) : (s.setMonitor value).state.pageCore = s.pageCore := by
  unfold State.setMonitor
  split <;> rfl

end Sys2Proof.Machine
end

section
/-! Every step keeps the page store sound: the engine's choice and the completions, the seal and the commands on pages and map, and then
each command. -/

namespace Sys2Proof.Machine

/-- A state whose engine has left its job and has still to choose (R34). -/
def State.leftJob (s : State) : State := { s with engine := { s.engine with running := none } }

theorem State.finishJob_eq (s : State) : s.finishJob = s.leftJob.choose := rfl

theorem State.pageCore_leftJob {s t : State} (e : t.pageCore = s.pageCore) : t.leftJob.pageCore = s.leftJob.pageCore := by
  simp only [State.pageCore, PageCore.mk.injEq] at e
  obtain ⟨pages, record, map, -, -, applied, committing, published⟩ := e
  simp only [State.pageCore, State.leftJob, pages, record, map, applied, committing, published]
  rfl

namespace State.PagesSound

/-! ## The engine (R33, R34) -/

/-- Page 0, the ROM page, is SEALED. -/
theorem rom_sealed {s : State} (h : s.PagesSound) : s.Sealed 0 := ⟨by omega, by rw [h.rom]; rfl⟩

/-- The page that the map names for any selection is SEALED (R105). -/
theorem pageFor_sealed {s : State} (h : s.PagesSound) (x : Selection) : s.Sealed (s.store.pageFor x) := by
  unfold PageStore.pageFor
  rw [List.getD_eq_getElem?_getD]
  cases entry : s.store.pageMap[mapSlot x]? with
  | some p => exact h.mapped p (List.mem_of_getElem? entry)
  | none => exact h.rom_sealed

/-- A decision formed at a CEILING start names a SEALED page (R108, R109). -/
theorem decision_sealed {s : State} (h : s.PagesSound) : s.Sealed (decisionFor s.store s.ceilingSnapshot).page := by
  unfold decisionFor
  split
  · exact h.pageFor_sealed _
  · exact h.applied

theorem choose {s : State} (h : s.PagesSound) : s.choose.PagesSound := by
  rcases s.choose_cases with ⟨e, _⟩ | ⟨idle, ⟨_, e⟩ | ⟨_, ⟨x, rest, _, e⟩ | ⟨_, _, r, record, e⟩⟩⟩ <;> rw [e]
  · exact h
  · exact ⟨h.length, h.rom, h.shaped, h.passed, h.sealing, h.record, fun _ _ run => (nomatch run), h.mapLength, h.mapped, h.applied,
      fun _ => ⟨_, rfl, h.decision_sealed⟩, h.published⟩
  · exact ⟨h.length, h.rom, h.shaped, h.passed, h.sealing, h.record, fun _ _ run => (nomatch run), h.mapLength, h.mapped, h.applied,
      fun run => (nomatch run), h.published⟩
  · refine ⟨h.length, h.rom, h.shaped, h.passed, h.sealing, h.record, ?_, h.mapLength, h.mapped, h.applied,
      fun run => (nomatch run), h.published⟩
    rintro _ _ ⟨⟩
    exact ⟨r, record, rfl⟩

theorem leftJob {s : State} (h : s.PagesSound) : s.leftJob.PagesSound :=
  ⟨h.length, h.rom, h.shaped, h.passed, h.sealing, h.record, fun _ _ run => (nomatch run), h.mapLength, h.mapped, h.applied,
    fun run => (nomatch run), h.published⟩

theorem finishJob {s : State} (h : s.PagesSound) : s.finishJob.PagesSound := by
  rw [State.finishJob_eq]
  exact h.leftJob.choose

theorem finishVoid {s : State} (h : s.PagesSound) (ceiling : Bool) : (s.finishVoid ceiling).PagesSound :=
  State.PagesSound.finishJob (h.of_core rfl)

theorem askCeiling {s : State} (h : s.PagesSound) : s.askCeiling.PagesSound := by
  rcases s.askCeiling_cases with ⟨e, _⟩ | ⟨_, _, e⟩ <;> rw [e]
  · exact h
  · exact State.PagesSound.choose (h.of_core rfl)

/-- The decision that a CEILING job commits names a SEALED page (R109, R110). -/
theorem decisionOf_sealed {s : State} (h : s.PagesSound) {n : CeilingSnapshot}
    (running : s.engine.running = some ⟨.ceiling n, false⟩) : s.Sealed (s.decisionOf n).page := by
  obtain ⟨d, committing, sealed⟩ := h.committing ((Engine.ceilingRunning_iff _).2 ⟨n, running⟩)
  simpa [State.decisionOf, committing] using sealed

/-- A CEILING job that has written, committed and answered leaves the engine: its page is the applied one, and what it published is
within the hard ceiling of that page (R73, R78, R110). -/
theorem ceilingDone {s : State} (h : s.PagesSound) {n : CeilingSnapshot} (running : s.engine.running = some ⟨.ceiling n, false⟩) :
    (s.ceilingHandOff n).finishJob.PagesSound := by
  have sealed := h.decisionOf_sealed running
  have row := h.passed _ sealed 1 (by omega) (by omega)
  have scalars := h.passed _ sealed 4 (by omega) (by omega)
  have evaluated : (s.evaluated n).leftJob.PagesSound :=
    ⟨h.length, h.rom, h.shaped, h.passed, h.sealing, h.record, fun _ _ run => (nomatch run), h.mapLength, h.mapped, sealed,
      fun run => (nomatch run), (n.published_le _ _ _ s.eval.cut).trans (n.ceiling_le_hard _ row scalars)⟩
  have answered : (s.ceilingHandOff n).leftJob.PagesSound :=
    evaluated.of_core (State.pageCore_leftJob (s.evaluated n).pageCore_answerAtCompletion)
  exact answered.choose

/-- A governor restart publishes the limp ceiling of the applied page, and leaves no decision to commit (R82, R118). -/
theorem restartBlocks {s : State} (h : s.PagesSound) : s.restartBlocks.PagesSound := by
  obtain ⟨-, -, sealStep⟩ := s.engine.restart_frame
  refine ⟨h.length, h.rom, h.shaped, h.passed, h.sealing, h.record, fun n v run => h.running n v ((sealStep n v).1 run), h.mapLength,
    h.mapped, h.applied, fun run => ?_, (h.passed _ h.applied 4 (by omega) (by omega)).limp_le⟩
  have idle : s.engine.restart.ceilingRunning = false := by
    unfold Engine.restart Engine.ceilingRunning
    rcases s.engine.running with _ | ⟨_ | _ | _, v⟩ <;> rfl
  exact absurd (idle.symm.trans run) (by decide)

end State.PagesSound

/-! ## A page changed (R106, R122) -/

/-- A page that is not the ROM page, and that neither a slot of the map nor governor control names (R106). -/
structure State.Unnamed (s : State) (i : Nat) : Prop where
  notRom : i ≠ 0
  unmapped : i ∉ s.store.pageMap
  unapplied : i ≠ s.governor.appliedPage
  uncommitted : s.engine.ceilingRunning → ∀ d, s.governor.committing = some d → d.page ≠ i

/-- Only SEALED pages are named. -/
theorem State.PagesSound.unnamed {s : State} (h : s.PagesSound) {i : Nat} (unsealed : (s.store.page i).state ≠ .sealed) :
    s.Unnamed i where
  notRom := by
    rintro rfl
    exact unsealed h.rom_sealed.2
  unmapped := fun mapped => unsealed (h.mapped i mapped).2
  unapplied := by
    rintro rfl
    exact unsealed h.applied.2
  uncommitted := by
    rintro running d committing rfl
    obtain ⟨d', committing', sealed⟩ := h.committing running
    obtain rfl : d = d' := Option.some.inj (committing.symm.trans committing')
    exact unsealed sealed.2

/-- A page other than the ROM page that is not in use is named by nothing (R106, R129). -/
theorem State.unnamed_of_not_inUse {s : State} {i : Nat} (notRom : i ≠ 0) (unused : s.pageInUse i = false) : s.Unnamed i := by
  simp only [State.pageInUse, State.namedInUse, Bool.or_eq_false_iff, List.any_eq_false, decide_eq_true_eq, decide_eq_false_iff_not,
    Bool.and_eq_false_iff] at unused
  obtain ⟨unmapped, ⟨unapplied, -⟩, uncommitted⟩ := unused
  refine ⟨notRom, fun mapped => unmapped i mapped rfl, unapplied, fun running d committing same => ?_⟩
  simp [running, committing, same] at uncommitted

/-- A page put into a state, its tables left as they are (R125, R127, R129). -/
def Page.inState (x : PageState) (p : Page) : Page := { p with state := x }

/-- The state with one page, the seal record and the engine changed. -/
def State.withPage (s : State) (i : Nat) (f : Page → Page) (record : Option SealRecord) (e : Engine) : State :=
  { s with store := { s.store.modifyPage i f with sealRecord := record }, engine := e }

theorem State.page_withPage_same (s : State) {i : Nat} (f : Page → Page) (record : Option SealRecord) (e : Engine)
    (listed : i < s.store.pages.length) : (s.withPage i f record e).store.page i = f (s.store.page i) :=
  s.store.page_modifyPage_same f listed

theorem State.page_withPage_ne (s : State) {i j : Nat} (f : Page → Page) (record : Option SealRecord) (e : Engine) (other : j ≠ i) :
    (s.withPage i f record e).store.page j = s.store.page j := s.store.page_modifyPage_ne f other

namespace State.PagesSound

/-- A page that nothing names may change, where it passes every check once it is SEALED and the seal record and the step that runs go
with it. -/
theorem withPage {s : State} (h : s.PagesSound) {i : Nat} {f : Page → Page} {record : Option SealRecord} {e : Engine} (listed : i < 8)
    (unnamed : s.Unnamed i) (shaped : (f (s.store.page i)).Shaped)
    (passed : (f (s.store.page i)).state = .sealed → ∀ k, 1 ≤ k → k ≤ 4 → (f (s.store.page i)).Passes k)
    (ceiling : e.ceilingRunning → s.engine.ceilingRunning)
    (sealing : ∀ j, j < 8 → ((s.withPage i f record e).store.page j).state = .sealing → ∃ r, record = some r ∧ r.page = j)
    (recorded : ∀ r, record = some r →
      r.page < 8 ∧ ((s.withPage i f record e).store.page r.page).state = .sealing ∧ 1 ≤ r.step ∧ r.step ≤ 4 ∧
        ∀ k, 1 ≤ k → k < r.step → ((s.withPage i f record e).store.page r.page).Passes k)
    (running : ∀ n v, e.running = some ⟨.sealStep n, v⟩ →
      ∃ r, record = some r ∧ n = (s.withPage i f record e).sealSnapshot r) : (s.withPage i f record e).PagesSound := by
  have same := s.page_withPage_same f record e (h.length.symm ▸ listed)
  have other : ∀ {j}, j ≠ i → (s.withPage i f record e).store.page j = s.store.page j := s.page_withPage_ne f record e
  have sealed : ∀ {j}, j ≠ i → s.Sealed j → (s.withPage i f record e).Sealed j :=
    fun ne sound => ⟨sound.1, by rw [other ne]; exact sound.2⟩
  refine ⟨?_, ?_, fun j hj => ?_, fun j sound k low high => ?_, sealing, recorded, running, h.mapLength, fun p mapped => ?_, ?_,
    fun run => ?_, ?_⟩
  · exact (s.store.modifyPage_length i f).trans h.length
  · rw [other unnamed.notRom.symm]
    exact h.rom
  · rcases eq_or_ne j i with rfl | ne
    · rw [same]
      exact shaped
    · rw [other ne]
      exact h.shaped j hj
  · rcases eq_or_ne j i with rfl | ne
    · rw [State.Sealed, same] at sound
      rw [same]
      exact passed sound.2 k low high
    · rw [State.Sealed, other ne] at sound
      rw [other ne]
      exact h.passed j sound k low high
  · have ne : p ≠ i := by
      rintro rfl
      exact unnamed.unmapped mapped
    exact sealed ne (h.mapped p mapped)
  · exact sealed unnamed.unapplied.symm h.applied
  · obtain ⟨d, committing, sound⟩ := h.committing (ceiling run)
    exact ⟨d, committing, sealed (unnamed.uncommitted (ceiling run) d committing) sound⟩
  · have applied : (s.withPage i f record e).appliedPage = s.appliedPage := other unnamed.unapplied.symm
    rw [applied]
    exact h.published

/-- A page that is not SEALING, before or after, may change and leaves the seal that is under way. -/
theorem pageRewritten {s : State} (h : s.PagesSound) {i : Nat} {f : Page → Page} (listed : i < 8) (unnamed : s.Unnamed i)
    (shaped : (f (s.store.page i)).Shaped) (before : (s.store.page i).state ≠ .sealing) (after : (f (s.store.page i)).state = .opened) :
    (s.withPage i f s.store.sealRecord s.engine).PagesSound := by
  have same := s.page_withPage_same f s.store.sealRecord s.engine (h.length.symm ▸ listed)
  have other : ∀ {j}, j ≠ i → (s.withPage i f s.store.sealRecord s.engine).store.page j = s.store.page j :=
    s.page_withPage_ne f s.store.sealRecord s.engine
  have elsewhere : ∀ r, s.store.sealRecord = some r → r.page ≠ i := by
    rintro r record rfl
    obtain ⟨-, sealing, -⟩ := h.record r record
    exact before sealing
  refine h.withPage listed unnamed shaped (by simp [after]) id (fun j hj sealing => ?_) (fun r record => ?_) (fun n v running => ?_)
  · rcases eq_or_ne j i with rfl | ne
    · rw [same, after] at sealing
      exact nomatch sealing
    · rw [other ne] at sealing
      exact h.sealing j hj sealing
  · rw [other (elsewhere r record)]
    exact h.record r record
  · obtain ⟨r, record, snapshot⟩ := h.running n v running
    refine ⟨r, record, ?_⟩
    rw [State.sealSnapshot, other (elsewhere r record)]
    exact snapshot

/-! ## The seal (R125 to R127) -/

/-- While no seal is under way, no page is SEALING and no step runs. -/
theorem noSeal {s : State} (h : s.PagesSound) (free : s.store.sealRecord = none) :
    (∀ j, j < 8 → (s.store.page j).state ≠ .sealing) ∧ ∀ n v, s.engine.running ≠ some ⟨.sealStep n, v⟩ := by
  refine ⟨fun j hj sealing => ?_, fun n v running => ?_⟩
  · obtain ⟨r, record, -⟩ := h.sealing j hj sealing
    exact nomatch free.symm.trans record
  · obtain ⟨r, record, -⟩ := h.running n v running
    exact nomatch free.symm.trans record

/-- A page other than that of the seal record is not SEALING. -/
theorem not_sealing {s : State} (h : s.PagesSound) {r : SealRecord} (record : s.store.sealRecord = some r) {j : Nat} (listed : j < 8)
    (other : j ≠ r.page) : (s.store.page j).state ≠ .sealing := by
  intro sealing
  obtain ⟨r', record', rfl⟩ := h.sealing j listed sealing
  obtain rfl : r = r' := Option.some.inj (record.symm.trans record')
  exact other rfl

/-- An accepted seal makes an OPEN page SEALING, with its first step still to take (R125). -/
theorem beginSeal {s : State} (h : s.PagesSound) {page : Nat} (tag : Byte) (listed : page < 8)
    (opened : (s.store.page page).state = .opened) (free : s.store.sealRecord = none) : (s.beginSeal page tag).PagesSound := by
  obtain ⟨noneSealing, noneRunning⟩ := h.noSeal free
  have same := s.page_withPage_same (Page.inState .sealing) (some ⟨page, 1, tag⟩) { s.engine with sealPending := true }
    (h.length.symm ▸ listed)
  have begun : (s.withPage page (Page.inState .sealing) (some ⟨page, 1, tag⟩)
      { s.engine with sealPending := true }).PagesSound := by
    refine h.withPage listed (h.unnamed (by simp [opened])) (h.shaped page listed) (fun sealed => nomatch sealed) id
      (fun j hj sealing => ?_) ?_ (fun n v running => absurd running (noneRunning n v))
    · rcases eq_or_ne page j with rfl | ne
      · exact ⟨_, rfl, rfl⟩
      · rw [s.page_withPage_ne _ _ _ ne.symm] at sealing
        exact absurd sealing (noneSealing j hj)
    · rintro _ ⟨⟩
      exact ⟨listed, by rw [same]; rfl, Nat.le_refl 1, by simp, fun k low high => absurd high (Nat.not_lt_of_le low)⟩
  exact State.PagesSound.choose (begun.of_core rfl)

/-- A seal that ends leaves its page OPEN, or SEALED once it passes every step (R127). -/
theorem endSeal {s : State} (h : s.PagesSound) {r : SealRecord} (record : s.store.sealRecord = some r) {x : PageState}
    (ended : x ≠ .sealing) (passed : x = .sealed → ∀ k, 1 ≤ k → k ≤ 4 → (s.store.page r.page).Passes k) :
    (s.withPage r.page (Page.inState x) none s.leftJob.engine).PagesSound := by
  obtain ⟨listed, sealing, -⟩ := h.record r record
  refine h.withPage listed (h.unnamed (by simp [sealing])) (h.shaped r.page listed) passed (fun run => nomatch run)
    (fun j hj still => ?_) (fun _ record => nomatch record) (fun _ _ run => nomatch run)
  rcases eq_or_ne j r.page with rfl | ne
  · rw [s.page_withPage_same _ _ _ (h.length.symm ▸ listed)] at still
    exact absurd still ended
  · rw [s.page_withPage_ne _ _ _ ne] at still
    exact absurd still (h.not_sealing record hj ne)

/-- A step that passes takes the seal to its next one (R127). -/
theorem nextStep {s : State} (h : s.PagesSound) {r : SealRecord} (record : s.store.sealRecord = some r) (more : r.step < 4)
    (passes : (s.store.page r.page).Passes r.step) :
    ({ s.leftJob with store := { s.store with sealRecord := some { r with step := r.step + 1 } } } : State).PagesSound := by
  obtain ⟨listed, sealing, first, -, earlier⟩ := h.record r record
  refine ⟨h.length, h.rom, h.shaped, h.passed, fun j hj still => ⟨_, rfl, ?_⟩, ?_, fun _ _ run => (nomatch run), h.mapLength,
    h.mapped, h.applied, fun run => (nomatch run), h.published⟩
  · by_contra other
    exact h.not_sealing record hj (Ne.symm other) still
  · rintro _ ⟨⟩
    refine ⟨listed, sealing, by simp, more, fun k low high => ?_⟩
    rcases Nat.lt_or_eq_of_le (Nat.le_of_lt_succ high) with before | rfl
    · exact earlier k low before
    · exact passes

/-- The end of a SEAL_STEP: the seal goes on, has passed its last step, or has failed (R127). -/
theorem sealDone {s : State} (h : s.PagesSound) {n : SealSnapshot} {v : Bool} {r : SealRecord}
    (running : s.engine.running = some ⟨.sealStep n, v⟩) (record : s.store.sealRecord = some r) :
    (s.recordStep r n).finishJob.PagesSound := by
  obtain ⟨r', record', rfl⟩ := h.running n v running
  obtain rfl : r = r' := Option.some.inj (record.symm.trans record')
  obtain ⟨-, -, -, last, earlier⟩ := h.record r record
  have left : (s.recordStep r (s.sealSnapshot r)).leftJob.PagesSound := by
    unfold State.recordStep
    split
    · exact (h.endSeal (x := .opened) record (by decide) (fun sealed => nomatch sealed)).of_core rfl
    · rename_i passes
      split
      · rename_i more
        have advanced : s.advanceSeal r = _ := State.choose_busy (by simp [running])
        rw [advanced]
        exact (h.nextStep record more passes).of_core rfl
      · rename_i final
        refine (h.endSeal (x := .sealed) record (by decide) fun _ k low high => ?_).of_core rfl
        rcases Nat.lt_or_ge k r.step with before | reached
        · exact earlier k low before
        · obtain rfl : k = r.step := by omega
          exact passes
  exact left.choose

end State.PagesSound

/-! ## The commands on pages and map (R123, R125, R129, R131) -/

/-- A seal is accepted of an OPEN page alone, with no seal under way (R125). -/
theorem State.sealAnswer_accepted {s : State} {page : Nat} (accepted : s.sealAnswer page = .accepted) :
    page < 8 ∧ (s.store.page page).state = .opened ∧ s.store.sealRecord = none := by
  unfold State.sealAnswer at accepted
  split at accepted
  · exact nomatch accepted
  · split at accepted
    · exact nomatch accepted
    · split at accepted
      · exact nomatch accepted
      · rename_i listed _ free
        refine ⟨by omega, ?_, by simpa using free⟩
        split at accepted
        · assumption
        · exact nomatch accepted
        · exact nomatch accepted

namespace State.PagesSound

theorem writePage {s : State} (h : s.PagesSound) (page table index v : Nat) : (s.writePage page table index v).state.PagesSound := by
  unfold State.writePage
  split
  · exact h
  · rename_i inRange
    split
    · exact h
    · split
      · exact h
      · exact h
      · rename_i opened
        split
        · have listed : page < 8 := by
            simp only [entryInRange, decide_eq_false_iff_not, not_not] at inRange
            omega
          obtain ⟨state, -⟩ := (s.store.page page).setEntry_frame table index v
          have written := h.pageRewritten (f := fun p => p.setEntry table index v) listed (h.unnamed (by simp [opened]))
            ((h.shaped page listed).setEntry table index v) (by simp [opened]) (state.trans opened)
          exact written.of_core rfl
        · exact h

theorem unsealPageAt {s : State} (h : s.PagesSound) (page : Nat) : (s.unsealPageAt page).state.PagesSound := by
  unfold State.unsealPageAt
  split
  · exact h
  · split
    · exact h
    · rename_i inRange notRom
      split
      · exact h
      · exact h
      · rename_i sealed
        split
        · exact h
        · rename_i unused
          have listed : page < 8 := by omega
          have unsealed := h.pageRewritten (f := Page.inState .opened) listed
            (State.unnamed_of_not_inUse notRom (by simpa using unused)) (h.shaped page listed) (by simp [sealed]) rfl
          exact unsealed.of_core rfl

theorem mapPageAt {s : State} (h : s.PagesSound) (slot expected new : Nat) : (s.mapPageAt slot expected new).state.PagesSound := by
  have length := s.mapPageAt_length slot expected new
  unfold State.mapPageAt at length ⊢
  simp only at length ⊢
  split
  · exact h
  · rename_i inRange
    split
    · exact h
    · rename_i sealed
      split
      · exact h.of_core rfl
      · refine ⟨h.length, h.rom, h.shaped, h.passed, h.sealing, h.record, h.running, ?_, fun p mapped => ?_, h.applied, h.committing,
          h.published⟩
        · simpa [answerPlain] using h.mapLength
        · rcases List.mem_or_eq_of_mem_set mapped with before | rfl
          · exact h.mapped p before
          · exact ⟨by omega, of_not_not sealed⟩

theorem sealPageAt {s : State} (h : s.PagesSound) (tag page : Byte) : (s.sealPageAt tag page).PagesSound := by
  unfold State.sealPageAt
  split
  · rename_i accepted
    obtain ⟨listed, opened, free⟩ := State.sealAnswer_accepted accepted
    exact h.beginSeal tag listed opened free
  · exact h.of_core rfl

/-! ## Received frames and command frames -/

theorem dispatch {s : State} (h : s.PagesSound) (i : StreamId) (index : Nat) (e : RouteFields) (f : Frame) (v : Values) :
    (s.dispatch i index e f v).PagesSound := by
  cases v with
  | inertial roll yaw lateral =>
    simp only [State.dispatch]
    split
    · obtain ⟨engine, -, store, governor, eval, -⟩ := s.makeRoom_frame
      exact State.PagesSound.choose (h.of_core (by simp [State.pageCore, State.appendSample, engine, store, governor, eval]))
    · exact h
  | speed v => exact h
  | torque t clamped => exact State.PagesSound.askCeiling (h.of_core rfl)
  | selection mode load traction =>
    simp only [State.dispatch]
    split
    · exact h.of_core rfl
    · exact h

theorem supervise {s : State} (h : s.PagesSound) (i : StreamId) (index : Nat) (p : PortId) (e : RouteFields) (f : Frame) :
    (s.supervise i index p e f).PagesSound := by
  unfold State.supervise
  split
  · exact h.of_core (s.pageCore_rejectFrame _ _ _ _)
  · exact h.of_core rfl
  · rename_i v sequenceError _
    have recorded := h.of_core (s.pageCore_recordAccepted i index e f v sequenceError)
    exact (recorded.dispatch i index e f v).of_core (State.pageCore_forwardConsumed _ _ _ _ _ _)

/-- A command behind the standstill gate keeps what its owner keeps (R177). -/
theorem gated {s : State} (h : s.PagesSound) (code tag : Byte) {run : State → State} (kept : (run s).PagesSound) :
    (s.gated code tag run).PagesSound := by
  unfold State.gated
  split
  · exact kept
  · exact h.of_core rfl

/-- An answer keeps what its owner keeps (R178, R179). -/
theorem answered {a : Answer} (kept : a.state.PagesSound) (x : Sender) (code tag : Byte) : (a.send x code tag).PagesSound :=
  kept.of_core rfl

/-- Every command that the command unit runs keeps the page store sound (R178). -/
theorem runCommand {s : State} (h : s.PagesSound) (c : Instr) : (s.runCommand c).PagesSound := by
  cases c with
  | writePageEntry tag page table index value =>
    simp only [State.runCommand, State.runWritePage]
    exact h.gated _ _ ((h.writePage _ _ _ _).answered _ _ _)
  | sealPage tag page =>
    simp only [State.runCommand, State.runSealPage]
    exact h.gated _ _ (h.sealPageAt tag page)
  | unsealPage tag page =>
    simp only [State.runCommand, State.runUnsealPage]
    exact h.gated _ _ ((h.unsealPageAt _).answered _ _ _)
  | mapPage tag slot expected new =>
    simp only [State.runCommand, State.runMapPage]
    exact h.gated _ _ ((h.mapPageAt _ _ _).answered _ _ _)
  | writeRouteField tag entry field value =>
    simp only [State.runCommand, State.runWriteRoute]
    exact h.gated _ _ ((h.of_core (s.pageCore_writeRoute _ _ _)).answered _ _ _)
  | enableRoute tag entry =>
    simp only [State.runCommand, State.runEnableRoute]
    exact h.gated _ _ ((h.of_core (s.pageCore_enableRouteAt _)).answered _ _ _)
  | disableRoute tag entry =>
    simp only [State.runCommand, State.runDisableRoute]
    exact h.gated _ _ ((h.of_core (s.pageCore_disableRouteAt _)).answered _ _ _)
  | writeChassisSetting tag item value =>
    simp only [State.runCommand, State.runWriteChassis]
    exact h.gated _ _ ((h.of_core (s.pageCore_writeChassis _ _)).answered _ _ _)
  | restartGovernor tag =>
    simp only [State.runCommand, State.runRestart]
    exact h.gated _ _ (h.restartBlocks.of_core rfl)
  | monitorOnOff tag value => exact answered (h.of_core (s.pageCore_setMonitor _)) _ _ _
  | clearCapture tag => exact h.of_core rfl
  | ackAlert sender tag cls => exact h.of_core rfl
  | readPageEntry tag page table index => exact answered (by rwa [State.state_readPage]) _ _ _
  | readRouteField tag entry field => exact answered (by rwa [State.state_readRoute]) _ _ _
  | readChassisSetting tag item => exact answered (by rwa [State.state_readChassis]) _ _ _
  | readState sender tag item selector part => exact answered (by rwa [State.state_readItem]) _ _ _
  | readCounter tag block selector counter => exact answered (by rwa [State.state_readCount]) _ _ _
  | readCapture sender tag => exact h.of_core rfl
  | _ => exact h

theorem countTaken {s : State} (h : s.PagesSound) (x : Sender) : (s.countTaken x).PagesSound := h.of_core rfl

theorem takeCommandFrame {s : State} (h : s.PagesSound) (sender : Sender) (data : List Byte) :
    (s.takeCommandFrame sender data).PagesSound := by
  unfold State.takeCommandFrame State.runFrame
  simp only
  split
  · exact h.of_core rfl
  · split
    · exact h.of_core rfl
    · split
      · exact (h.countTaken sender).runCommand _
      · exact h.of_core rfl

theorem treat {s : State} (h : s.PagesSound) (index : Nat) (p : PortId) (e : RouteFields) (f : Frame) :
    (s.treat index p e f).PagesSound := by
  unfold State.treat
  split
  · exact h.supervise _ _ _ _ _
  · exact h.supervise _ _ _ _ _
  · exact h.supervise _ _ _ _ _
  · exact h.supervise _ _ _ _ _
  · exact h.supervise _ _ _ _ _
  · exact h.takeCommandFrame _ _
  · exact h.takeCommandFrame _ _
  · exact h.of_core (s.pageCore_forwardFrame _ _ _ _)

theorem modifyRoute {s : State} (h : s.PagesSound) (i : Nat) (f : RouteEntry → RouteEntry) : (s.modifyRoute i f).PagesSound :=
  h.of_core rfl

theorem deliver {s : State} (h : s.PagesSound) (p : PortId) (f : Frame) : (s.deliver p f).PagesSound := by
  unfold State.deliver State.matchedFrame
  split
  · split
    · exact (h.modifyRoute _ _).treat _ _ _ _
    · exact h.of_core rfl
  · exact h.of_core (s.pageCore_unknownFrame p f)

theorem receivedFrame {s : State} (h : s.PagesSound) {p : PortId} {f : Frame} {t : State} (e : exec (.receivedFrame p f) s = .next t) :
    t.PagesSound := by
  cases e
  have counted : ∀ x, (s.setPort p x).PagesSound := fun x => h.of_core (by simp [State.pageCore])
  split
  · exact counted _
  · split
    · exact (counted (s.port p).countForeign).of_core rfl
    · exact (counted _).deliver p f

end State.PagesSound

/-! ## Power-on reset (R139) -/

/-- After power-on reset the ROM page alone is not OPEN. -/
theorem State.reset_page_opened {i : Nat} (other : i ≠ 0) : (State.reset.store.page i).state = .opened := by
  obtain ⟨i, rfl⟩ := Nat.exists_eq_succ_of_ne_zero other
  change ((List.replicate 7 blankPage).getD i blankPage).state = .opened
  rw [List.getD_eq_getElem?_getD, List.getElem?_getD_replicate_default_eq]
  rfl

/-- The pages after power-on reset. -/
theorem State.reset_pagesSound : State.reset.PagesSound := by
  have rom : State.reset.Sealed 0 := ⟨by decide, rfl⟩
  refine ⟨rfl, rfl, by unfold Page.Shaped; decide, fun i sealed k low high => ?_, fun i _ sealing => ?_, fun _ record => (nomatch record),
    fun _ _ running => (nomatch running), rfl, fun p mapped => ?_, rom, fun running => (nomatch running), by decide⟩
  · obtain rfl : i = 0 := by
      by_contra other
      exact nomatch (State.reset_page_opened other).symm.trans sealed.2
    have passes : ∀ k, k < 5 → 1 ≤ k → sealScan k romPage.hardCeiling 0 none (romPage.stepTable k) = none := by decide +kernel
    exact passes k (by omega) low
  · rcases eq_or_ne i 0 with rfl | other
    · exact nomatch sealing
    · exact nomatch (State.reset_page_opened other).symm.trans sealing
  · rw [List.eq_of_mem_replicate mapped]
    exact rom

namespace State.PagesSound

/-! ## Completions, commands and the step -/

theorem leanCompletion {s t : State} (h : s.PagesSound) (e : exec .leanCompletion s = .next t) : t.PagesSound := by
  cases e
  split
  · split
    · exact h.finishVoid false
    · exact State.PagesSound.finishJob (h.of_core (s.pageCore_leanHandOff _))
  · exact h

theorem ceilingCompletion {s t : State} (h : s.PagesSound) (e : exec .ceilingCompletion s = .next t) : t.PagesSound := by
  cases e
  split
  · rename_i n v running
    cases v with
    | true => exact h.finishVoid true
    | false => exact h.ceilingDone running
  · exact h

theorem sealStepCompletion {s t : State} (h : s.PagesSound) (e : exec .sealStepCompletion s = .next t) : t.PagesSound := by
  cases e
  split
  · rename_i running record
    exact h.sealDone running record
  · exact h

/-- An update under a condition keeps what the update keeps. -/
theorem ite {c : Prop} [Decidable c] {s t : State} (h : s.PagesSound) (e : t.pageCore = s.pageCore) : (if c then t else s).PagesSound := by
  split
  · exact h.of_core e
  · exact h

/-- Every command keeps the page store sound. -/
theorem of_exec {c : Instr} {s t : State} (h : s.PagesSound) (e : exec c s = .next t) : t.PagesSound := by
  cases c with
  | powerOnReset => cases e; exact State.reset_pagesSound.of_core rfl
  | receivedFrame p f => exact h.receivedFrame e
  | policingWindowExpiry => cases e; exact h.ite s.pageCore_windowExpiry
  | staleExpiry i => cases e; exact h.ite (by simp [State.pageCore])
  | lostExpiry i => cases e; exact h.ite (s.pageCore_moveStream i _ _)
  | jobStart => cases e; exact h.choose
  | leanCompletion => exact h.leanCompletion e
  | ceilingCompletion => exact h.ceilingCompletion e
  | sealStepCompletion => exact h.sealStepCompletion e
  | holdExpiry => cases e; exact h.of_core s.pageCore_expireHold
  | startTimerExpiry => cases e; exact h.ite rfl
  | transmitArbiterChoice p => cases e; exact h.of_core (by simp [State.pageCore])
  | transmitSuccess p =>
    cases e
    split
    · exact h.of_core (s.pageCore_transmitSuccess p)
    · exact h
  | transmitFailure p =>
    cases e
    split
    · exact h.of_core (s.pageCore_transmitFailure p _)
    · exact h
  | recoveryTimerExpiry p => cases e; exact h.ite (s.pageCore_recoverPort p)
  | repeatTimerExpiry l => cases e; exact h.ite rfl
  | timeBaseAdvance => cases e; exact h.of_core rfl
  | _ =>
    rw [exec_carried rfl] at e
    cases e
    exact (h.countTaken _).runCommand _

theorem of_step {s t : State} (h : s.PagesSound) (e : step s = .next t) : t.PagesSound := by
  unfold step at e
  split at e
  · cases e
    exact h.of_core s.pageCore_idle
  · rename_i c rest _
    have taken : ({ s with pending := rest } : State).PagesSound := h.of_core rfl
    exact taken.of_exec e

end State.PagesSound

end Sys2Proof.Machine

namespace Sys2Proof.Proofs
open Sys2Proof.Machine

/-- Settles O57, by the case of the command. -/
theorem pagesKept : Obligations.PagesKept := fun _ _ sound e => sound.of_step e

end Sys2Proof.Proofs
end

section
/-! The arithmetic of an evaluation (R63 to R72): when slip is valid, how the cut moves, and the ceiling by governor state. -/

namespace Sys2Proof.Machine

/-! ## Slip (R63 to R65) -/

/-- The speed of a FRESH or STALE wheel stream is usable (R24). -/
theorem WheelView.usable_eq {w : WheelView} {v : Nat} (trusted : w.state = .fresh ∨ w.state = .stale) (speed : w.speed = some v) :
    w.usable = some v := by simp [WheelView.usable, (StreamState.trusted_iff _).2 trusted, speed]

/-- Slip is clamped to 1000 either way (R65). -/
theorem slipOf_eq (front rear : Nat) :
    slipOf front rear = max (-1000) (min 1000 ((((rear : Int) - front) * 1000).tdiv front)) := clampInt_eq (by decide) _

/-- With the speeds of both wheels usable, slip is valid exactly from a corrected front speed of 50 (R64, R65). -/
theorem CeilingSnapshot.slip_usable {n : CeilingSnapshot} {f r : Nat} (front : n.front.usable = some f) (rear : n.rear.usable = some r) :
    n.slip =
      if correctedSpeed f (readRow n.frontRadius 13 n.rowLean) < 50 then none
      else some (slipOf (correctedSpeed f (readRow n.frontRadius 13 n.rowLean))
        (correctedSpeed r (readRow n.rearRadius 13 n.rowLean))) := by
  simp only [CeilingSnapshot.slip, front, rear]

/-- With a wheel stream that is neither FRESH nor STALE slip is not valid (R63). -/
theorem CeilingSnapshot.slip_untrusted {n : CeilingSnapshot} (out : n.front.state.trusted = false ∨ n.rear.state.trusted = false) :
    n.slip = none := by
  rcases out with front | rear
  · simp [CeilingSnapshot.slip, WheelView.usable, front]
  · simp only [CeilingSnapshot.slip, WheelView.usable, rear]
    split <;> simp_all

/-! ## The cut (R67, R68) -/

/-- Slip above its target makes the cut grow by a share of the excess, at most to 250 (R67). -/
theorem CeilingSnapshot.governCut_grows {n : CeilingSnapshot} {g : Page} {x : Int} (slip : n.slip = some x)
    (above : (n.slipTarget g : Int) < x) :
    (n.governCut g : Int) = min 250 (n.cut + ((x - n.slipTarget g) * g.cutGrowth).tdiv 16) := by
  have growth : 0 ≤ ((x - n.slipTarget g) * g.cutGrowth).tdiv 16 :=
    Int.tdiv_nonneg (Int.mul_nonneg (by omega) (by omega)) (by decide)
  simp only [CeilingSnapshot.governCut, slip, above, if_true, cutLimit]
  omega

/-- Slip at its target or below makes the cut decay (R68). -/
theorem CeilingSnapshot.governCut_decays {n : CeilingSnapshot} {g : Page} {x : Int} (slip : n.slip = some x)
    (within : x ≤ n.slipTarget g) : n.governCut g = n.cut - g.cutDecay := by
  simp only [CeilingSnapshot.governCut, slip, Int.not_lt.mpr within, if_false]

/-- With slip not valid the cut decays (R68). -/
theorem CeilingSnapshot.governCut_noSlip {n : CeilingSnapshot} {g : Page} (slip : n.slip = none) :
    n.governCut g = n.cut - g.cutDecay := by simp only [CeilingSnapshot.governCut, slip]

end Sys2Proof.Machine

namespace Sys2Proof.Proofs
open Sys2Proof.Machine

/-- Settles O23: each clause is the equation of its part of the evaluation. -/
theorem ceilingArithmetic : Obligations.CeilingArithmetic := by
  unfold Obligations.CeilingArithmetic
  intro n g lean target leanCeiling limp
  refine ⟨fun f r frontSpeed rearSpeed frontTrusted rearTrusted => ?slip, CeilingSnapshot.slip_untrusted,
    fun x => CeilingSnapshot.governCut_grows, fun x => CeilingSnapshot.governCut_decays, CeilingSnapshot.governCut_noSlip,
    rfl, rfl, rfl, rfl, rfl, rfl, rfl⟩
  case slip =>
    have slip := CeilingSnapshot.slip_usable (WheelView.usable_eq frontTrusted frontSpeed) (WheelView.usable_eq rearTrusted rearSpeed)
    refine ⟨fun slow => slip.trans (if_pos slow), fun fast => ?_⟩
    exact (slip.trans (if_neg (Nat.not_lt.mpr fast))).trans (congrArg some (slipOf_eq _ _))

end Sys2Proof.Proofs
end

section
/-! The parts of a CEILING completion: the evaluator's writes (R73, R74, R78), the answer to the held request (R89) and the commit of the
decision (R110), with the START timer (R116). -/

namespace Sys2Proof.Machine

/-! ## The parts of the hand-off -/

/-- An answer reaches the forwarder and the two ports: the torque command goes to Port B, the monitor frame to Port A (R89, R96, R98). -/
theorem State.answer_eq (s : State) (h : HeldRequest) (late : Bool) :
    s.answer h late = { s with
      forwarder := s.forwarder.answered late (s.resultFlags h late).intervened
      portA := if s.forwarder.monitorOn then s.portA.offer .q0 (s.monitorFrame h late) else s.portA
      portB := s.portB.offer .q3 (s.torqueCommand h late) } := by
  unfold State.answer
  simp only
  split <;> rfl

/-- The forwarder's part of a CEILING completion reaches the forwarder and the two ports (R89). -/
theorem State.answerAtCompletion_eq (s : State) :
    s.answerAtCompletion = { s with
      forwarder := s.answerAtCompletion.forwarder, portA := s.answerAtCompletion.portA, portB := s.answerAtCompletion.portB } := by
  rcases s.answerAtCompletion_cases with ⟨h, _, e⟩ | ⟨_, e⟩ <;> rw [e]
  rw [State.answer_eq]

/-- A CEILING completion hands off what the evaluator and governor control have written, then what the forwarder answers (R74). -/
theorem State.ceilingHandOff_parts (s : State) (n : CeilingSnapshot) : s.ceilingHandOff n = (s.evaluated n).answerAtCompletion := rfl

/-- What a CEILING completion hands off is what it has written and committed, but for the forwarder and the ports (R74). -/
theorem State.ceilingHandOff_eq (s : State) (n : CeilingSnapshot) :
    s.ceilingHandOff n = { s.evaluated n with
      forwarder := (s.ceilingHandOff n).forwarder
      portA := (s.ceilingHandOff n).portA
      portB := (s.ceilingHandOff n).portB } := (s.evaluated n).answerAtCompletion_eq

@[simp] theorem State.ceilingHandOff_eval (s : State) (n : CeilingSnapshot) : (s.ceilingHandOff n).eval = (s.evaluated n).eval := by
  rw [State.ceilingHandOff_eq]
@[simp] theorem State.ceilingHandOff_governor (s : State) (n : CeilingSnapshot) :
    (s.ceilingHandOff n).governor = (s.evaluated n).governor := by rw [State.ceilingHandOff_eq]
@[simp] theorem State.ceilingHandOff_lean (s : State) (n : CeilingSnapshot) : (s.ceilingHandOff n).lean = s.lean := by
  rw [State.ceilingHandOff_eq]; rfl
@[simp] theorem State.ceilingHandOff_store (s : State) (n : CeilingSnapshot) : (s.ceilingHandOff n).store = s.store := by
  rw [State.ceilingHandOff_eq]; rfl
@[simp] theorem State.ceilingHandOff_routes (s : State) (n : CeilingSnapshot) : (s.ceilingHandOff n).routes = s.routes := by
  rw [State.ceilingHandOff_eq]; rfl
@[simp] theorem State.ceilingHandOff_commands (s : State) (n : CeilingSnapshot) : (s.ceilingHandOff n).commands = s.commands := by
  rw [State.ceilingHandOff_eq]; rfl
@[simp] theorem State.stream_ceilingHandOff (s : State) (n : CeilingSnapshot) (i : StreamId) :
    (s.ceilingHandOff n).stream i = s.stream i := by
  rw [State.ceilingHandOff_eq]; cases i <;> rfl

/-- With the slot empty a CEILING completion builds no frame (R89). -/
theorem State.ceilingHandOff_empty {s : State} (n : CeilingSnapshot) (empty : s.forwarder.slot = none) :
    s.ceilingHandOff n = s.evaluated n := by
  rw [State.ceilingHandOff_parts]
  rcases (s.evaluated n).answerAtCompletion_cases with ⟨h, held, _⟩ | ⟨_, e⟩
  · exact nomatch empty.symm.trans held
  · exact e

/-- A held request is answered from what the evaluator and governor control have just written (R75, R89). -/
theorem State.ceilingHandOff_held {s : State} (n : CeilingSnapshot) {h : HeldRequest} (held : s.forwarder.slot = some h) :
    s.ceilingHandOff n = (s.evaluated n).answer h false := by
  rw [State.ceilingHandOff_parts]
  rcases (s.evaluated n).answerAtCompletion_cases with ⟨h', held', e⟩ | ⟨empty, _⟩
  · obtain rfl : h = h' := Option.some.inj (held.symm.trans held')
    exact e
  · exact nomatch held.symm.trans empty

/-- With a decision to commit, the evaluator writes by it and governor control commits it (R74, R110). -/
theorem State.evaluated_committing {s : State} {n : CeilingSnapshot} {d : Decision} (committing : s.governor.committing = some d) :
    (s.evaluated n).eval = s.eval.write n d (s.store.page d.page) ∧ (s.evaluated n).governor = s.governor.commit d s.eval.fold := by
  have decision : s.decisionOf n = d := by simp [State.decisionOf, committing]
  simp only [State.evaluated, decision]
  exact ⟨rfl, rfl⟩

/-- The torque out is below the request exactly when C_pub is (R93, R94). -/
theorem State.intervened_iff (s : State) (h : HeldRequest) (late : Bool) :
    (s.resultFlags h late).intervened ↔ s.eval.published < h.request := by
  simp [State.resultFlags, State.torqueOut]

/-! ## The evaluator's writes (R73, R74, R78) -/

/-- With the fold mark clear the evaluator publishes the ceiling within the rise limit (R73). -/
theorem Evaluator.write_unfolded {v : Evaluator} (n : CeilingSnapshot) (d : Decision) (g : Page) (clear : v.fold = false) :
    (v.write n d g).published = min (n.ceiling d.state g) (n.published + g.riseMax) ∧ (v.write n d g).cut = n.newCut d.state g ∧
    ((v.write n d g).riseLimited ↔ n.published + g.riseMax < n.ceiling d.state g) := by
  simp [Evaluator.write, CeilingSnapshot.result, clear]

/-- With the fold mark set it publishes within the limp ceiling too, and leaves the cut (R78). -/
theorem Evaluator.write_folded {v : Evaluator} (n : CeilingSnapshot) (d : Decision) (g : Page) (folded : v.fold) :
    (v.write n d g).published = min (min (n.ceiling d.state g) g.limpCeiling) (n.published + g.riseMax) ∧
    (v.write n d g).cut = v.cut ∧
    ((v.write n d g).riseLimited ↔
      n.published + g.riseMax < n.ceiling d.state g ∧ n.published + g.riseMax < g.limpCeiling) ∧
    (v.write n d g).counts.folded = bump v.counts.folded := by
  simp [Evaluator.write, CeilingSnapshot.result, folded]

/-! ## The commit (R110, R120) -/

/-- The choice leaves governor control where no CEILING job is asked for (R33). -/
theorem State.choose_governor_unasked {s : State} (unasked : s.engine.ceilingPending = false) : s.choose.governor = s.governor := by
  rcases s.choose_cases with ⟨e, _⟩ | ⟨_, ⟨asked, _⟩ | ⟨_, ⟨x, rest, _, e⟩ | ⟨_, _, r, _, e⟩⟩⟩
  · rw [e]
  · exact nomatch unasked.symm.trans asked
  · rw [e]; rfl
  · rw [e]; rfl

/-- The entries counts after a commit: the count of the state taken rises when the state changes (R120). -/
theorem GovCounts.enter_changed (c : GovCounts) (before after : GovState) :
    (if after ≠ before then c.enter after else c) = { c with
      startEntries := if after = .start ∧ before ≠ .start then bump c.startEntries else c.startEntries
      governEntries := if after = .govern ∧ before ≠ .govern then bump c.governEntries else c.governEntries
      limpEntries := if after = .limp ∧ before ≠ .limp then bump c.limpEntries else c.limpEntries
      bypassEntries := if after = .bypass ∧ before ≠ .bypass then bump c.bypassEntries else c.bypassEntries } := by
  rcases eq_or_ne after before with rfl | changed
  · simp
  · rw [if_pos changed]
    cases after <;> simp [GovCounts.enter, changed.symm]

theorem committedState_eq (d : Decision) (withdrawn folded : Bool) :
    committedState d withdrawn folded = if withdrawn ∨ folded then .limp else d.state := by
  simp [committedState]

/-- Governor control after a commit, field by field, in the state taken (R110, R116, R120; log 32). -/
theorem Governor.commit_eq {g : Governor} {d : Decision} {folded : Bool} {e : GovState}
    (taken : committedState d g.withdrawn folded = e) :
    g.commit d folded = { g with
      state := e
      applied := d.selection
      appliedPage := d.page
      committing := none
      withdrawn := false
      startTimer := if g.state = .start ∧ e ≠ .start then .stopped else g.startTimer
      counts := { g.counts with
        startEntries := if e = .start ∧ g.state ≠ .start then bump g.counts.startEntries else g.counts.startEntries
        governEntries := if e = .govern ∧ g.state ≠ .govern then bump g.counts.governEntries else g.counts.governEntries
        limpEntries := if e = .limp ∧ g.state ≠ .limp then bump g.counts.limpEntries else g.counts.limpEntries
        bypassEntries := if e = .bypass ∧ g.state ≠ .bypass then bump g.counts.bypassEntries else g.counts.bypassEntries
        selectionApplied := if d.selection ≠ g.applied ∨ d.page ≠ g.appliedPage then bump g.counts.selectionApplied
          else g.counts.selectionApplied } } := by
  simp only [Governor.commit, taken, GovCounts.enter_changed, bumpIf, decide_eq_true_eq]

/-! ## The START timer (R116) -/

/-- The START timer is due in START alone, while it runs, from 3000 ms (R116; log 3). -/
theorem State.startTimerDue_iff (s : State) :
    s.startTimerDue ↔ s.governor.state = .start ∧ ∃ start, s.governor.startTimer = .running start ∧ 3000 ≤ ageOf s.now start := by
  unfold State.startTimerDue
  cases s.governor.startTimer with
  | running start =>
    have due : timerDue s.now start startSetting ↔ 3000 ≤ ageOf s.now start := decide_eq_true_iff
    simp [due]
  | stopped => simp
  | expired => simp

end Sys2Proof.Machine

namespace Sys2Proof.Proofs
open Sys2Proof.Machine

/-- Settles O24: the completion is the evaluator's writes, the commit and the answer, and the engine's choice after them moves nothing
that the statement names. -/
theorem ceilingCompletion : Obligations.CeilingCompletion := by
  unfold Obligations.CeilingCompletion
  refine ⟨fun s n d running committing => ⟨_, (State.handedOff_ceiling running).done, ?writes⟩,
    fun s n running => ⟨_, (State.handedOff_ceiling running).done, fun empty => ?empty, fun h held => ⟨s.evaluated n, ?held⟩⟩⟩
  case writes =>
    have eval : (s.ceilingHandOff n).finishJob.eval = s.eval.write n d (s.store.page d.page) := by
      rw [State.finishJob_eval, State.ceilingHandOff_eval, (State.evaluated_committing committing).1]
    rw [eval]
    refine ⟨?slip, rfl, rfl, decide_eq_true_iff, rfl, Evaluator.write_unfolded n d _, Evaluator.write_folded n d _, ?frame⟩
    case slip =>
      simp only [Evaluator.write, CeilingSnapshot.result]
      cases n.slip <;> rfl
    case frame => simp
  case empty =>
    rw [State.ceilingHandOff_empty n empty]
    exact ⟨State.finishJob_forwarder _, State.finishJob_portB _⟩
  case held =>
    have intervened := (s.evaluated n).intervened_iff h false
    rw [State.finishJob_eval, State.finishJob_governor_state, State.finishJob_forwarder, State.finishJob_portB,
      State.ceilingHandOff_eval, State.ceilingHandOff_governor, State.ceilingHandOff_held n held, State.answer_eq]
    refine ⟨rfl, rfl, rfl, rfl, ?_⟩
    simp only [← intervened]
    rfl

/-- Settles O26: the commit is read off its equations, and the expiry off when its timer is due. -/
theorem decisionCommitted : Obligations.DecisionCommitted := by
  unfold Obligations.DecisionCommitted
  refine ⟨fun s n d running committing unasked => ?commit, fun s => ⟨fun start state timer due => ?due, fun waits => ?waits⟩⟩
  case commit =>
    intro e
    refine ⟨_, (State.handedOff_ceiling running).done, ?_⟩
    obtain ⟨engine, -⟩ := s.ceilingHandOff_leaves n
    have governor : (s.ceilingHandOff n).finishJob.governor = s.governor.commit d s.eval.fold := by
      refine (State.choose_governor_unasked (by rw [engine]; exact unasked)).trans ?_
      exact (s.ceilingHandOff_governor n).trans (State.evaluated_committing committing).2
    exact governor.trans (Governor.commit_eq (committedState_eq d _ _))
  case due =>
    have due := s.startTimerDue_iff.2 ⟨state, start, timer, due⟩
    simp [exec, execStartTimerExpiry, due]
  case waits =>
    have waits : ¬ s.startTimerDue := by
      rw [State.startTimerDue_iff]
      rintro ⟨state, start, timer, due⟩
      rcases waits with other | stopped | expired | ⟨start', timer', early⟩
      · exact other state
      · exact nomatch stopped.symm.trans timer
      · exact nomatch expired.symm.trans timer
      · obtain ⟨⟩ := timer'.symm.trans timer
        omega
    simp [exec, execStartTimerExpiry, waits]

end Sys2Proof.Proofs
end

section
/-! The frames that answer a held request (R93 to R95, R98) and the hold expiry (R85, R90). -/

namespace Sys2Proof.Machine

/-! ## The torque command (R93 to R95, R188) -/

/-- A bit set below a word is its bit 0, and the word's bits stand one higher. -/
theorem getLsbD_append_ofBool {v : Nat} (x : BitVec v) (b : Bool) :
    (x ++ BitVec.ofBool b).getLsbD 0 = b ∧ ∀ i, (x ++ BitVec.ofBool b).getLsbD (i + 1) = x.getLsbD i :=
  ⟨BitVec.getLsbD_concat_zero, fun _ => BitVec.getLsbD_concat_succ⟩

/-- The four flags of a torque command, bit by bit, and nothing above them (R94, R188). -/
theorem ResultFlags.commandBits_bits (f : ResultFlags) :
    f.commandBits.getLsbD 0 = f.intervened ∧ f.commandBits.getLsbD 1 = f.cutActive ∧ f.commandBits.getLsbD 2 = f.late ∧
    f.commandBits.getLsbD 3 = f.degraded ∧ f.commandBits.toNat < 16 := by
  refine ⟨?_, ?_, ?_, ?_, ?small⟩
  case small =>
    rw [ResultFlags.commandBits, BitVec.toNat_setWidth_of_le (by decide)]
    exact BitVec.isLt _
  all_goals simp [ResultFlags.commandBits, getLsbD_append_ofBool, -BitVec.getLsbD_eq_getElem]

/-- The two bytes of an unsigned field, at the head of a frame, read back modulo 65536 (R186). -/
theorem unsignedAt_twoBytes (n : Nat) (rest : List Byte) : unsignedAt (twoBytes n ++ rest) 0 = n % 65536 := by
  simp [unsignedAt, twoBytes, bytesOf]

/-! ## The monitor frame (R98, R188) -/

/-- The seven flags of a monitor frame, from the most significant bit (R76, R188). -/
theorem ResultFlags.monitorBits_bits (f : ResultFlags) :
    f.monitorBits.getLsbD 6 = f.intervened ∧ f.monitorBits.getLsbD 5 = f.clampedRequest ∧
    f.monitorBits.getLsbD 4 = f.cutActive ∧ f.monitorBits.getLsbD 3 = f.riseLimited ∧ f.monitorBits.getLsbD 2 = f.late ∧
    f.monitorBits.getLsbD 1 = f.degraded ∧ f.monitorBits.getLsbD 0 = f.pageChanged := by
  simp [ResultFlags.monitorBits, getLsbD_append_ofBool, -BitVec.getLsbD_eq_getElem]

/-- Seven fields and the check byte set side by side are found at the bits that R188 gives the monitor frame. -/
theorem monitorWord_fields (request out : BitVec 9) (lean : BitVec 11) (cut : BitVec 8) (flags : BitVec 7) (unused : BitVec 8)
    (alive : Alive) (check : Byte) :
    let w := request ++ out ++ lean ++ cut ++ flags ++ unused ++ alive ++ check
    w.extractLsb' 55 9 = request ∧ w.extractLsb' 46 9 = out ∧ w.extractLsb' 35 11 = lean ∧ w.extractLsb' 27 8 = cut ∧
    w.extractLsb' 20 7 = flags ∧ w.extractLsb' 12 8 = unused ∧ w.extractLsb' 8 4 = alive := by
  -- The library's lemmas with the lower width named, as for the lean report.
  have above {v} (w : Nat) (x : BitVec v) (y : BitVec w) := @BitVec.extractLsb'_append_eq_of_le v w x y
  have lowest {v} (w : Nat) (x : BitVec v) (y : BitVec w) := @BitVec.extractLsb'_append_eq_right v w x y
  simp [above 4, above 7, above 8, above 9, above 11, lowest 4, lowest 7, lowest 8, lowest 9, lowest 11]

/-- The fields of the monitor frame, at their bits (R98, R188). -/
theorem State.monitorFrame_fields (s : State) (h : HeldRequest) (late : Bool) :
    let w : BitVec 64 := ((s.monitorFrame h late).data.foldl (fun (acc : Nat) b => acc * 256 + b.toNat) 0 : Nat)
    w.extractLsb' 55 9 = BitVec.ofNat 9 h.request ∧
    w.extractLsb' 46 9 = BitVec.ofNat 9 (s.torqueOut h) ∧
    w.extractLsb' 35 11 = BitVec.ofInt 11 (leanTenths s.lean.lean) ∧
    w.extractLsb' 27 8 = BitVec.ofNat 8 s.eval.cut ∧
    w.extractLsb' 20 7 = (s.resultFlags h late).monitorBits ∧
    w.extractLsb' 12 8 = 0 ∧ w.extractLsb' 8 4 = s.forwarder.alive := by
  intro w
  have word : w = _ := word_protectedFrame monitorId _
  rw [word]
  exact monitorWord_fields ..

/-- The seven flags stand in a monitor frame from bit 26 down (R188). -/
theorem monitorBits_found {w : BitVec 64} {f : ResultFlags} (flags : w.extractLsb' 20 7 = f.monitorBits) :
    w.getLsbD 26 = f.intervened ∧ w.getLsbD 25 = f.clampedRequest ∧ w.getLsbD 24 = f.cutActive ∧
    w.getLsbD 23 = f.riseLimited ∧ w.getLsbD 22 = f.late ∧ w.getLsbD 21 = f.degraded ∧ w.getLsbD 20 = f.pageChanged := by
  have bit (i : Nat) (low : i < 7) : w.getLsbD (20 + i) = f.monitorBits.getLsbD i := by
    rw [← flags, BitVec.getLsbD_extractLsb', decide_eq_true low, Bool.true_and]
  obtain ⟨b6, b5, b4, b3, b2, b1, b0⟩ := f.monitorBits_bits
  exact ⟨(bit 6 (by decide)).trans b6, (bit 5 (by decide)).trans b5, (bit 4 (by decide)).trans b4, (bit 3 (by decide)).trans b3,
    (bit 2 (by decide)).trans b2, (bit 1 (by decide)).trans b1, (bit 0 (by decide)).trans b0⟩

/-! ## The hold expiry (R85, R90) -/

/-- A hold expiry that is not due leaves the state as it is (R85; log 3). -/
theorem State.expireHold_waits {s : State} (waits : s.forwarder.holdDue = false) : s.expireHold = s := by
  rcases s.expireHold_cases with ⟨-, e⟩ | ⟨due, -⟩
  · exact e
  · exact nomatch waits.symm.trans due

/-- A due hold expiry answers the held request late (R90). -/
theorem State.expireHold_due {s : State} {h : HeldRequest} {age : Nat} (held : s.forwarder.slot = some h)
    (timer : s.forwarder.holdTimer = some age) (due : h.holdLimit ≤ age) : s.expireHold = s.answerLate h := by
  rcases s.expireHold_cases with ⟨waits, -⟩ | ⟨-, h', held', e⟩
  · exact nomatch waits.symm.trans (s.forwarder.holdDue_iff.2 ⟨h, age, held, timer, due⟩)
  · obtain rfl : h = h' := Option.some.inj (held.symm.trans held')
    exact e

end Sys2Proof.Machine

namespace Sys2Proof.Proofs
open Sys2Proof.Machine

/-- Settles O28: the torque command is read byte by byte, and the monitor frame as one word of its fields. -/
theorem answerFrames : Obligations.AnswerFrames := by
  unfold Obligations.AnswerFrames
  intro s h late out f g w
  obtain ⟨bit0, bit1, bit2, bit3, four⟩ := (s.resultFlags h late).commandBits_bits
  have alive : (s.forwarder.alive.setWidth 8).toNat = s.forwarder.alive.toNat := BitVec.toNat_setWidth_of_le (by decide)
  obtain ⟨request, torque, lean, cut, flags, unused, monitorAlive⟩ := s.monitorFrame_fields h late
  obtain ⟨b26, b25, b24, b23, b22, b21, b20⟩ := monitorBits_found flags
  have intervened : (s.resultFlags h late).intervened ↔ out < h.request := decide_eq_true_iff
  have cutActive : (s.resultFlags h late).cutActive ↔ 0 < s.eval.cut := decide_eq_true_iff
  have degraded : (s.resultFlags h late).degraded ↔ s.governor.state ≠ .govern := decide_eq_true_iff
  refine ⟨rfl, rfl, unsignedAt_twoBytes _ _, ?_, ?_, bit2, ?_, four, rfl, rfl, rfl, alive, rfl,
    rfl, rfl, request, torque, lean, cut, ?_, b25, ?_, b23, b22, ?_, b20, unused, monitorAlive, rfl⟩
  · rw [← intervened, ← bit0]; rfl
  · rw [← cutActive, ← bit1]; rfl
  · rw [← degraded, ← bit3]; rfl
  · rw [← intervened, ← b26]
  · rw [← cutActive, ← b24]
  · rw [← degraded, ← b21]

/-- Settles O29: the guard decides between the late answer, read off its equation, and nothing. -/
theorem holdExpiryAnswersLate : Obligations.HoldExpiryAnswersLate := by
  unfold Obligations.HoldExpiryAnswersLate
  refine fun s => ⟨fun h age held timer due => ⟨s.answer h true, ?late, ?portB, ?portA, ?frame⟩, fun waits => ?waits⟩
  case late => exact congrArg Host.Outcome.next (State.expireHold_due held timer due)
  case portB => rw [State.answer_eq]
  case portA => rw [State.answer_eq]
  case frame =>
    have intervened := s.intervened_iff h true
    rw [State.answer_eq]
    simp only [← intervened]
    rfl
  case waits =>
    have waits : s.forwarder.holdDue = false := by
      rw [← Bool.not_eq_true, Forwarder.holdDue_iff]
      rintro ⟨h, age, held, timer, due⟩
      rcases waits with empty | stopped | ⟨h', age', held', timer', early⟩
      · exact nomatch empty.symm.trans held
      · exact nomatch stopped.symm.trans timer
      · obtain ⟨⟩ := held'.symm.trans held
        obtain ⟨⟩ := timer'.symm.trans timer
        omega
    exact congrArg Host.Outcome.next (State.expireHold_waits waits)

end Sys2Proof.Proofs
end

section
/-! The commands without the standstill gate: the owners' answers to MONITOR ON/OFF and to the reads (R97, R124, R133, R181 to R183). -/

namespace Sys2Proof.Machine

/-- What an owner answers on a state it leaves as `s` goes out as the reply from that state (R179). -/
theorem next_send {s : State} {a : Answer} {r : Result} {data : List Byte} (answer : a = ⟨s, r, data⟩) (x : Sender) (code tag : Byte) :
    (.next (a.send x code tag) : Host.Outcome State Fault Refusal) = .next (s.reply x code tag r data) := by
  rw [answer]
  rfl

/-! ## MONITOR ON/OFF (R97) -/

/-- A switch is 0 or 1 (R186; log 15). -/
theorem flagOf_eq_none {n : Nat} (notOff : n ≠ 0) (notOn : n ≠ 1) : flagOf n = none := by
  unfold flagOf
  split
  · exact absurd rfl notOff
  · exact absurd rfl notOn
  · rfl

theorem State.setMonitor_refused {s : State} {n : Nat} (notOff : n ≠ 0) (notOn : n ≠ 1) :
    s.setMonitor n = ⟨s, .badOperand, []⟩ := by
  simp [State.setMonitor, flagOf_eq_none notOff notOn, answerPlain]

/-! ## The page entries (R124) -/

theorem entryInRange_iff (page table index : Nat) :
    entryInRange page table index ↔ page ≤ 7 ∧ table ≤ 3 ∧ index ≤ (if table = 3 then 7 else 12) := decide_eq_true_iff

theorem State.readPage_refused {s : State} {page table index : Nat} (beyond : ¬ entryInRange page table index) :
    s.readPage page table index = ⟨s, .badOperand, []⟩ := if_neg beyond

theorem State.readPage_named {s : State} {page table index : Nat} (named : entryInRange page table index) :
    s.readPage page table index =
      ⟨s, .done, twoBytes (((s.store.page page).table table).getD index 0) ++ [byteOf (s.store.page page).state.code]⟩ := if_pos named

/-! ## The route fields (R183) -/

/-- No field is numbered above 10 (R189). -/
theorem RouteFields.read_beyond (f : RouteFields) {field : Nat} (beyond : 10 < field) : f.read field = none := by
  obtain ⟨n, rfl⟩ := Nat.exists_eq_add_of_le' beyond
  rfl

/-- The fields that a read of an entry sees: the blank values while it is FREE (R183). -/
def RouteEntry.shownFields (e : RouteEntry) : RouteFields := if e.state = .free then blankFields else e.fields

theorem State.readRoute_refused {s : State} {entry field : Nat} (beyond : 47 < entry ∨ 10 < field) :
    s.readRoute entry field = ⟨s, .badOperand, []⟩ := by
  unfold State.readRoute
  split
  · rfl
  · next listed =>
    have unknown := (s.route entry).shownFields.read_beyond (beyond.resolve_left listed)
    rw [RouteEntry.shownFields] at unknown
    simp [unknown, answerPlain]

theorem State.readRoute_known {s : State} {entry field v : Nat} (listed : entry ≤ 47)
    (value : (s.route entry).shownFields.read field = some v) :
    s.readRoute entry field = ⟨s, .done, twoBytes v ++ [byteOf (s.route entry).state.code]⟩ := by
  rw [RouteEntry.shownFields] at value
  simp [State.readRoute, value, Nat.not_lt.mpr listed]

/-! ## The chassis settings (R133) -/

/-- No item is numbered above 86 (R189). -/
theorem chassisItem_beyond {n : Nat} (beyond : 86 < n) : chassisItem n = none := by
  unfold chassisItem
  repeat rw [if_neg (by omega)]

theorem State.readChassis_refused {s : State} {n : Nat} (unknown : chassisItem n = none) :
    s.readChassis n = ⟨s, .badOperand, []⟩ := by
  simp [State.readChassis, unknown, answerPlain]

theorem State.readChassis_known {s : State} {n : Nat} {i : ChassisItem} (known : chassisItem n = some i) :
    s.readChassis n = ⟨s, .done, s.store.chassis.read i⟩ := by
  simp [State.readChassis, known]

/-! ## The items and the counters (R181, R182) -/

/-- READ STATE from either sender is the item read in the state that has counted the frame (R175, R181). -/
theorem exec_readState (s : State) (sender : Sender) (tag item selector part : Byte) :
    exec (.readState sender tag item selector part) s =
      .next (((s.takenFrom sender).readItem item.toNat selector.toNat part.toNat).send sender 0x13 tag) := by
  rw [← State.countTaken_eq]
  rfl

/-- READ CAPTURE answers with two frames of the record as it stands (R183). -/
theorem exec_readCapture (s : State) (sender : Sender) (tag : Byte) :
    exec (.readCapture sender tag) s =
      .next (((s.takenFrom sender).reply sender 0x15 tag .done (capturePart0 s.faults.capture)).reply sender 0x15 tag .done
        (capturePart1 s.faults.capture)) := by
  rw [← State.countTaken_eq]
  rfl

theorem State.readItem_part {s : State} {item selector part : Nat} {fields : List (List Byte)} {data : List Byte}
    (known : s.itemFields item selector = some fields) (found : (packParts [] fields)[part]? = some data) :
    s.readItem item selector part = ⟨s, .done, data⟩ := by
  simp [State.readItem, known, found]

/-- A read of an item is refused when the item or the selector is unknown, and beyond the last part (R181). -/
theorem State.readItem_refused {s : State} {item selector part : Nat}
    (beyond : ∀ fields, s.itemFields item selector = some fields → (packParts [] fields).length ≤ part) :
    s.readItem item selector part = ⟨s, .badOperand, []⟩ := by
  have none : (s.itemFields item selector).bind (fun fields => (packParts [] fields)[part]?) = none :=
    Option.bind_eq_none_iff.2 fun fields known => List.getElem?_eq_none (beyond fields known)
  simp [State.readItem, none, answerPlain]

theorem State.readCount_counter {s : State} {block selector counter n : Nat} {counts : List Nat}
    (known : s.blockCounters block selector = some counts) (found : counts[counter]? = some n) :
    s.readCount block selector counter = ⟨s, .done, twoBytes n⟩ := by
  simp [State.readCount, known, found]

/-- A read of a counter is refused when the block or the selector is unknown, and beyond the last counter (R182). -/
theorem State.readCount_refused {s : State} {block selector counter : Nat}
    (beyond : ∀ counts, s.blockCounters block selector = some counts → counts.length ≤ counter) :
    s.readCount block selector counter = ⟨s, .badOperand, []⟩ := by
  have none : (s.blockCounters block selector).bind (fun counts => counts[counter]?) = none :=
    Option.bind_eq_none_iff.2 fun counts known => List.getElem?_eq_none (beyond counts known)
  simp [State.readCount, none, answerPlain]

end Sys2Proof.Machine

namespace Sys2Proof.Proofs
open Sys2Proof.Machine

/-- Settles O51: each command is its owner's answer, given on the state that has counted the frame, sent as the reply. -/
theorem ungatedCommands : Obligations.UngatedCommands := by
  unfold Obligations.UngatedCommands
  refine ⟨fun s tag value => ⟨?off, ?on, ?refused, rfl⟩,
    fun s tag a b c => ⟨⟨?pageBeyond, ?pageNamed⟩, ⟨?routeBeyond, ?routeKnown⟩, ?chassisBeyond, ?chassisKnown⟩,
    fun s sender tag a b c => ⟨⟨?itemUnknown, ?itemKnown⟩, ⟨?blockUnknown, ?blockKnown⟩, ?capture⟩⟩
  case off => rintro rfl; rfl
  case on => rintro rfl; rfl
  case refused =>
    intro notOff notOn
    exact next_send (State.setMonitor_refused (mt (BitVec.eq_of_toNat_eq (y := 0)) notOff) (mt (BitVec.eq_of_toNat_eq (y := 1)) notOn)) ..
  case pageBeyond => exact fun beyond => next_send (State.readPage_refused (mt (entryInRange_iff _ _ _).1 beyond)) ..
  case pageNamed => exact fun named => next_send (State.readPage_named ((entryInRange_iff _ _ _).2 named)) ..
  case routeBeyond => exact fun beyond => next_send (State.readRoute_refused beyond) ..
  case routeKnown => exact fun v listed value => next_send (State.readRoute_known (s := s.takenFrom .service) listed value) ..
  case chassisBeyond => exact fun beyond => next_send (State.readChassis_refused (chassisItem_beyond beyond)) ..
  case chassisKnown => exact fun i known => next_send (State.readChassis_known known) ..
  case itemUnknown =>
    intro unknown
    exact (exec_readState ..).trans (next_send
      (State.readItem_refused (s := s.takenFrom sender) fun _ known => nomatch unknown.symm.trans known) ..)
  case itemKnown =>
    refine fun fields known => ⟨fun part found => ?part, fun beyond => ?beyond⟩
    case part => exact (exec_readState ..).trans (next_send (State.readItem_part (s := s.takenFrom sender) known found) ..)
    case beyond =>
      refine (exec_readState ..).trans (next_send (State.readItem_refused fun fields' known' => ?_) ..)
      obtain ⟨⟩ := known'.symm.trans known
      exact beyond
  case blockUnknown =>
    exact fun unknown => next_send (State.readCount_refused fun _ known => nomatch unknown.symm.trans known) ..
  case blockKnown =>
    refine fun counts known => ⟨fun n found => ?counter, fun beyond => ?beyond⟩
    case counter => exact next_send (State.readCount_counter known found) ..
    case beyond =>
      refine next_send (State.readCount_refused fun counts' known' => ?_) ..
      obtain ⟨⟩ := known'.symm.trans known
      exact beyond
  case capture => exact exec_readCapture s sender tag

end Sys2Proof.Proofs
end

section
/-! What can become of the governor state outside the commit of a decision, move by move: it stands, falls from GOVERN to LIMP, or is
START again (R102, R112, R118, R119). -/

namespace Sys2Proof.Machine

/-! ## The moves of the governor state -/

/-- The moves of the governor state that no commit makes. -/
inductive StateMove : GovState → GovState → Prop
  | stands (e : GovState) : StateMove e e
  /-- A governing stream is lost in GOVERN (R112). -/
  | falls : StateMove .govern .limp
  /-- A governor restart or power-on reset (R118, R119). -/
  | restarts (e : GovState) : StateMove e .start

/-- The governor state of `s` moves to that of `t` by no commit. -/
abbrev State.MovesTo (s t : State) : Prop := StateMove s.governor.state t.governor.state

/-- No such move enters GOVERN: the state has stood there. -/
theorem StateMove.govern_stood {e : GovState} (m : StateMove e .govern) : e = .govern := by
  cases m
  rfl

theorem StateMove.trans {a b c : GovState} (m : StateMove a b) (m' : StateMove b c) : StateMove a c := by
  cases m' with
  | stands => exact m
  | falls => exact m.govern_stood ▸ .falls
  | restarts => exact .restarts a

namespace State.MovesTo

theorem refl (s : State) : s.MovesTo s := .stands _

theorem trans {s t u : State} (m : s.MovesTo t) (m' : t.MovesTo u) : s.MovesTo u := StateMove.trans m m'

/-- A state kept stands. -/
theorem of_eq {s t : State} (h : t.governor.state = s.governor.state) : s.MovesTo t := by
  unfold State.MovesTo
  exact h ▸ .stands _

/-- What leaves the evaluation core leaves the state. -/
theorem of_core {s t : State} (h : t.evalCore = s.evalCore) : s.MovesTo t := of_eq (congrArg EvalCore.state h)

theorem ite {c : Prop} [Decidable c] {s t : State} (m : s.MovesTo t) : s.MovesTo (if c then t else s) := by
  split
  · exact m
  · exact refl s

/-- The engine's choice starts jobs and commits nothing (R33, R109). -/
theorem choose {s t : State} (m : s.MovesTo t) : s.MovesTo t.choose := m.trans (of_eq t.choose_governor_state)

/-- The fault unit's view of an event moves nothing (R159). -/
theorem handOffs {s t : State} (m : s.MovesTo t) (hs : List HandOff) : s.MovesTo (t.handOffs hs) := m

/-! ## Streams -/

/-- A governing loss falls to LIMP from GOVERN alone (R111 to R113). -/
theorem governingLoss (s : State) : s.MovesTo s.governingLoss := by
  unfold State.governingLoss
  split
  · rename_i governs
    unfold State.MovesTo
    exact governs ▸ .falls
  · exact ite (of_eq rfl)

theorem leaveTrusted (s : State) (i : StreamId) : s.MovesTo (s.leaveTrusted i) := by
  cases i with
  | inertial => exact governingLoss s.invalidateLean
  | wheelFront => exact governingLoss s
  | wheelRear => exact governingLoss s
  | torqueRequest => exact refl s
  | riderSelect => exact refl s

theorem moveStream (s : State) (i : StreamId) (source : Source) (r : StreamRecord) : s.MovesTo (s.moveStream i source r).1 := by
  have set : s.MovesTo (s.setStream i r) := of_core (s.evalCore_setStream i r)
  rw [State.moveStream_fst]
  split
  · exact set.trans (leaveTrusted _ i)
  · exact set

theorem floods (xs : List (Nat × RouteEntry)) (acc : State × List HandOff) : acc.1.MovesTo (xs.foldl floodEntry acc).1 := by
  induction xs generalizing acc with
  | nil => exact refl _
  | cons x xs ih =>
    refine trans ?_ (ih _)
    unfold floodEntry
    split
    · exact refl _
    · exact moveStream _ _ _ _

theorem windowExpiry (s : State) : s.MovesTo s.windowExpiry := by
  unfold State.windowExpiry
  refine handOffs (trans ?_ (floods _ (_, []))) _
  exact of_eq rfl

/-! ## Received frames -/

/-- No consumer of an accepted frame moves the state: a sample or request asks for a job, a selection is only wanted (R24, R103). -/
theorem dispatch (s : State) (i : StreamId) (index : Nat) (e : RouteFields) (f : Frame) (v : Values) :
    s.MovesTo (s.dispatch i index e f v) := by
  cases v with
  | inertial roll yaw lateral =>
    obtain ⟨-, -, -, governor, -⟩ := s.makeRoom_frame
    exact ite (choose (of_eq (congrArg Governor.state governor)))
  | speed v => exact refl s
  | torque t clamped =>
    refine of_eq ?_
    rcases State.askCeiling_cases { s with forwarder := s.forwarder.enter (heldRequest index e f.ident t clamped s.now) } with
      ⟨absorbed, -⟩ | ⟨-, -, asked⟩
    · exact congrArg (·.governor.state) absorbed
    · exact (congrArg (·.governor.state) asked).trans (State.choose_governor_state _)
  | selection mode load traction => exact ite (of_eq rfl)

theorem supervise (s : State) (i : StreamId) (index : Nat) (p : PortId) (e : RouteFields) (f : Frame) :
    s.MovesTo (s.supervise i index p e f) := by
  unfold State.supervise
  split
  · exact (moveStream (s.countRoute index RouteCounts.reject) i (.route index) _).handOffs _
  · exact of_eq rfl
  · rename_i v sequenceError _
    have recorded : s.MovesTo (s.recordAccepted i index e f v sequenceError) :=
      (moveStream (s.countRoute index (·.accept sequenceError v.isClamped)) i (.route index) _).handOffs _
    exact (recorded.trans (dispatch _ _ _ _ _ _)).trans (of_core (State.evalCore_forwardConsumed _ _ _ _ _ _))

/-! ## Commands -/

theorem gated {s : State} {run : State → State} (m : s.MovesTo (run s)) (code tag : Byte) : s.MovesTo (s.gated code tag run) := by
  unfold State.gated
  split
  · exact m
  · exact of_core (s.evalCore_refuseMoving code tag)

/-- A seal waits for the engine's choice, or is refused (R125). -/
theorem sealPageAt (s : State) (tag page : Byte) : s.MovesTo (s.sealPageAt tag page) := by
  unfold State.sealPageAt
  split
  · exact choose (of_eq rfl)
  · exact of_core (s.evalCore_reply _ _ _ _ _)

/-- A disabled entry returns its stream to UNSEEN, which can lose a governing stream (R6, R23). -/
theorem disableRouteAt (s : State) (entry : Nat) : s.MovesTo (s.disableRouteAt entry).state := by
  have disabled : s.MovesTo (s.disableEnabled entry) := by
    unfold State.disableEnabled
    simp only
    split
    · exact of_eq rfl
    · exact (moveStream (s.modifyRoute entry _) _ _ _).handOffs _
  unfold State.disableRouteAt
  split
  · exact refl s
  · split
    · exact disabled
    · exact refl s
    · exact of_eq rfl

/-- Of the commands that the command unit runs, RESTART GOVERNOR and DISABLE ROUTE alone move the state (R178). -/
theorem runCommand (s : State) (c : Instr) : s.MovesTo (s.runCommand c) := by
  cases c with
  | writePageEntry tag page table index value => exact gated (of_core (s.evalCore_writePage _ _ _ _)) _ _
  | sealPage tag page => exact gated (sealPageAt s tag page) _ _
  | unsealPage tag page => exact gated (of_core (s.evalCore_unsealPageAt _)) _ _
  | mapPage tag slot expected new => exact gated (of_core (s.evalCore_mapPageAt _ _ _)) _ _
  | writeRouteField tag entry field value => exact gated (of_core (s.evalCore_writeRoute _ _ _)) _ _
  | enableRoute tag entry => exact gated (of_core (s.evalCore_enableRouteAt _)) _ _
  | disableRoute tag entry => exact gated (disableRouteAt s entry.toNat) _ _
  | writeChassisSetting tag item value => exact gated (of_core (s.evalCore_writeChassis _ _)) _ _
  | restartGovernor tag => exact gated (run := fun s => s.restart.reply .service 0x09 tag .done []) (.restarts _) _ _
  | monitorOnOff tag value => exact of_core (s.evalCore_setMonitor _)
  | readPageEntry tag page table index => exact of_eq (congrArg (·.governor.state) (s.state_readPage _ _ _))
  | readRouteField tag entry field => exact of_eq (congrArg (·.governor.state) (s.state_readRoute _ _))
  | readChassisSetting tag item => exact of_eq (congrArg (·.governor.state) (s.state_readChassis _))
  | readState sender tag item selector part => exact of_eq (congrArg (·.governor.state) (s.state_readItem _ _ _))
  | readCounter tag block selector counter => exact of_eq (congrArg (·.governor.state) (s.state_readCount _ _ _))
  | _ => exact of_eq rfl

theorem takeCommandFrame (s : State) (sender : Sender) (data : List Byte) : s.MovesTo (s.takeCommandFrame sender data) := by
  unfold State.takeCommandFrame State.runFrame
  simp only
  split
  · exact of_eq rfl
  · split
    · exact of_eq rfl
    · split
      · exact runCommand (s.countTaken sender) _
      · exact of_eq rfl

/-! ## Reception -/

theorem treat (s : State) (index : Nat) (p : PortId) (e : RouteFields) (f : Frame) : s.MovesTo (s.treat index p e f) := by
  unfold State.treat
  split
  · exact supervise s _ _ _ _ _
  · exact supervise s _ _ _ _ _
  · exact supervise s _ _ _ _ _
  · exact supervise s _ _ _ _ _
  · exact supervise s _ _ _ _ _
  · exact takeCommandFrame s _ _
  · exact takeCommandFrame s _ _
  · exact of_core (s.evalCore_forwardFrame _ _ _ _)

theorem receivedFrame (s : State) (p : PortId) (f : Frame) {t : State} (h : exec (.receivedFrame p f) s = .next t) : s.MovesTo t := by
  cases h
  split
  · exact of_core (s.evalCore_setPort p _)
  · split
    · exact of_core (s.evalCore_setPort p _)
    · refine trans (of_core (s.evalCore_setPort p (s.port p).countDelivered)) ?_
      unfold State.deliver State.matchedFrame
      split
      · split
        · exact treat (State.modifyRoute _ _ _) _ _ _ _
        · exact of_eq rfl
      · exact of_core (State.evalCore_unknownFrame _ p f)

/-! ## Completions and every other command -/

theorem leanCompletion {s t : State} (h : exec .leanCompletion s = .next t) : s.MovesTo t := by
  cases h
  split
  · rename_i n isVoid _
    have written : s.MovesTo (s.leanHandOff n) := 
      of_eq (congrArg EvalCore.state (s.leanTold n).evalCore_decimate)
    split
    · exact choose (of_eq rfl)
    · exact choose written
  · exact refl s

theorem sealStepCompletion {s t : State} (h : exec .sealStepCompletion s = .next t) : s.MovesTo t := by
  cases h
  split
  · rename_i n _ r running _
    obtain ⟨-, -, governor, -⟩ := State.recordStep_outcome (s := s) (by simp [running]) r n
    exact choose (of_eq (congrArg Governor.state governor))
  · exact refl s

/-- Every command but CEILING_COMPLETION moves the governor state by these moves alone. -/
theorem of_exec {c : Instr} {s t : State} (other : c ≠ .ceilingCompletion) (h : exec c s = .next t) : s.MovesTo t := by
  cases c with
  | powerOnReset => cases h; exact .restarts _
  | receivedFrame p f => exact receivedFrame s p f h
  | policingWindowExpiry => cases h; exact ite (windowExpiry s)
  | staleExpiry i => cases h; exact ite (of_core (s.evalCore_setStream i _))
  | lostExpiry i => cases h; exact ite (moveStream s i _ _)
  | jobStart => cases h; exact choose (refl s)
  | leanCompletion => exact leanCompletion h
  | ceilingCompletion => exact absurd rfl other
  | sealStepCompletion => exact sealStepCompletion h
  | holdExpiry =>
    cases h
    rcases s.expireHold_cases with ⟨_, e⟩ | ⟨_, r, _, e⟩ <;> rw [e]
    · exact refl s
    · exact of_eq (congrArg EvalCore.state (s.evalCore_answer r true))
  | startTimerExpiry => cases h; exact ite (of_eq rfl)
  | transmitArbiterChoice p => cases h; exact of_core (s.evalCore_arbitrate p)
  | transmitSuccess p =>
    cases h
    split
    · exact of_core (s.evalCore_transmitSuccess p)
    · exact refl s
  | transmitFailure p =>
    cases h
    split
    · exact of_core (s.evalCore_transmitFailure p _)
    · exact refl s
  | recoveryTimerExpiry p => cases h; exact ite (of_core (s.evalCore_recoverPort p))
  | repeatTimerExpiry l => cases h; exact ite (of_core (s.evalCore_withFaultSide _))
  | timeBaseAdvance => cases h; exact of_core (s.evalCore_elapse _)
  | _ =>
    rw [exec_carried rfl] at h
    cases h
    exact runCommand (s.countTaken _) _

end State.MovesTo
end Sys2Proof.Machine

namespace Sys2Proof.Proofs
open Sys2Proof.Machine

/-- Settles O27: outside a commit the state stands, falls or restarts, and only a state that stands is still GOVERN. -/
theorem governEnteredAtCompletion : Obligations.GovernEnteredAtCompletion := by
  intro c s t other done governs
  have moves : StateMove s.governor.state t.governor.state := State.MovesTo.of_exec other done
  rw [governs] at moves
  exact moves.govern_stood

end Sys2Proof.Proofs
end

section
/-! The decision formed at a CEILING start: the safe point, the governing inputs and the transition table (R107 to R109). -/

namespace Sys2Proof.Machine

/-- The safe point read off the blocks: little lean, or lean not valid, and a held request of 20 Nm or less (R107). -/
theorem State.safePoint_iff (s : State) :
    s.ceilingSnapshot.safePoint ↔
      (s.lean.lean.natAbs ≤ 1000 ∨ s.lean.valid = false) ∧ ∃ h, s.forwarder.slot = some h ∧ h.request ≤ 20 := by
  cases held : s.forwarder.slot <;> simp [CeilingSnapshot.safePoint, State.ceilingSnapshot, held]

/-- The governing inputs read off the blocks (R108). -/
theorem State.inputsReady_iff (s : State) :
    s.ceilingSnapshot.inputsReady ↔
      s.inertial.state = .fresh ∧ s.wheelFront.state = .fresh ∧ s.wheelRear.state = .fresh ∧ s.lean.valid := by
  rw [CeilingSnapshot.inputsReady, Bool.and_eq_true, decide_eq_true_iff, and_assoc, and_assoc]
  rfl

/-- Without traction the decision is BYPASS (R108). -/
theorem decideState_bypass (e : GovState) (ready : Bool) : decideState e false ready = .bypass := rfl

theorem decideState_govern (e : GovState) : decideState e true true = .govern := rfl

/-- While an input is not ready, BYPASS alone is left, for LIMP (R108). -/
theorem decideState_notReady (e : GovState) :
    decideState e true false = match e with
      | .start => .start
      | .govern => .govern
      | .limp => .limp
      | .bypass => .limp := rfl

/-- At the safe point the decision names the wanted selection, its page and the state of the table (R108). -/
theorem State.decision_safe {s : State} (safe : s.ceilingSnapshot.safePoint) :
    decisionFor s.store s.ceilingSnapshot =
      ⟨decideState s.governor.state s.governor.wanted.traction s.ceilingSnapshot.inputsReady, s.wantedPage, s.governor.wanted⟩ := by
  rw [decisionFor, if_pos safe]
  rfl

/-- Away from the safe point the decision names what stands (R109). -/
theorem State.decision_away {s : State} (away : s.ceilingSnapshot.safePoint = false) :
    decisionFor s.store s.ceilingSnapshot = ⟨s.governor.state, s.governor.appliedPage, s.governor.applied⟩ := by
  rw [decisionFor, if_neg (by simp [away])]
  rfl

end Sys2Proof.Machine

namespace Sys2Proof.Proofs
open Sys2Proof.Machine

/-- Settles O25: an IDLE engine that is asked starts the CEILING job, whose decision is read off the snapshot. -/
theorem decisionFormed : Obligations.DecisionFormed := by
  intro s idle asked w safe ready
  have started : exec .jobStart s = .next s.startCeiling := congrArg Host.Outcome.next (State.choose_ceiling idle asked)
  refine ⟨s.startCeiling, started, rfl, rfl, fun atSafe => ?safe, fun away => ?away⟩
  case safe =>
    have safePoint := s.safePoint_iff.2 atSafe
    refine ⟨by simp [State.startCeiling, safePoint], _, congrArg some (State.decision_safe safePoint), ?_, ?_, ?_⟩
    · intro off
      rw [off, decideState_bypass]
    · intro on isReady
      rw [on, s.inputsReady_iff.2 isReady, decideState_govern]
    · intro on notReady
      rw [on, Bool.eq_false_iff.2 (mt s.inputsReady_iff.1 notReady)]
      exact decideState_notReady _
  case away =>
    have noSafePoint := Bool.eq_false_iff.2 (mt s.safePoint_iff.1 away)
    exact ⟨by simp [State.startCeiling, noSafePoint], congrArg some (State.decision_away noSafePoint)⟩

end Sys2Proof.Proofs
end

section
/-! An accepted frame of a consuming class, and what an accepted rider selection comes to (R17, R23, R24, R103). -/

namespace Sys2Proof.Machine

theorem aliveOf_eq (data : List Byte) : aliveOf data = (dataByte data 6).setWidth 4 := by
  simp [aliveOf, BitVec.setWidth_eq_extractLsb']

/-- A matched frame within budget that its class's checks accept is handled as accepted (R7, R17). -/
theorem exec_accepted {s : State} {p : PortId} {f : Frame} {i : Nat} {k : StreamId} {v : Values} {sequenceError : Bool}
    (matched : s.Matched p f i) (budget : s.HasBudget i) (consuming : streamOf (s.route i).fields.cls = some k)
    (judged : judge s.store.chassis k (s.stream k) (s.route i).fields f = .accepted v sequenceError) :
    exec (.receivedFrame p f) s = .next ((s.admitted p i).acceptFrame k i p (s.route i).fields f v sequenceError) := by
  refine (execReceivedFrame_consuming matched budget consuming).trans ?_
  simp [State.supervise, judged]

/-- The rider selection stream bears on no condition and no other block: a move replaces its record alone (R23). -/
theorem State.moveStream_riderSelect (s : State) (source : Source) (r : StreamRecord) :
    s.moveStream .riderSelect source r = (s.setStream .riderSelect r, []) := by
  unfold State.moveStream
  simp only
  repeat' split
  all_goals rfl

/-- Forwarding reaches the entry's forwarded count and the ports alone (R25). -/
theorem State.forwardConsumed_frame (s : State) (k : StreamId) (i : Nat) (p : PortId) (e : RouteFields) (f : Frame) :
    ∃ routes portA portB, s.forwardConsumed k i p e f = { s with routes := routes, portA := portA, portB := portB } := by
  unfold State.forwardConsumed State.forwardFrame
  cases p
  all_goals
    repeat' split
    all_goals exact ⟨_, _, _, rfl⟩

/-- The wanted selection is written whole, and a change of it counted (R103). -/
theorem State.setWanted_governor (s : State) (x : Selection) :
    (s.setWanted x).governor = { s.governor with
      wanted := x
      counts := { s.governor.counts with
        wantedChange := if s.governor.wanted = x then s.governor.counts.wantedChange
          else bump s.governor.counts.wantedChange } } := by
  by_cases same : s.governor.wanted = x
  · simp [State.setWanted, same]
  · simp [State.setWanted, same, Ne.symm same]

/-- The record of an accepted rider selection is kept, counted and told to the fault unit; no other block sees it (R17, R23). -/
theorem State.recordAccepted_riderSelect (s : State) (i : Nat) (e : RouteFields) (f : Frame) (v : Values) (sequenceError : Bool) :
    ∃ routes portA faults draws, s.recordAccepted .riderSelect i e f v sequenceError = { s with
      routes := routes, portA := portA, faults := faults, draws := draws
      riderSelect := s.riderSelect.accept e v (aliveOf f.data) s.now sequenceError } := by
  simp only [State.recordAccepted, State.moveStream_riderSelect]
  exact ⟨_, _, _, _, rfl⟩

/-- An accepted rider selection: its record, the wanted selection while the stream is FRESH after it, and beside these the counts, the
ports and the fault unit alone (R17, R24, R25, R103). -/
theorem State.acceptFrame_selection (s : State) (i : Nat) (p : PortId) (e : RouteFields) (f : Frame) (mode load : Nat)
    (traction sequenceError : Bool) {r : StreamRecord}
    (record : s.riderSelect.accept e (.selection mode load traction) (aliveOf f.data) s.now sequenceError = r) :
    ∃ routes portA portB faults draws,
      s.acceptFrame .riderSelect i p e f (.selection mode load traction) sequenceError = { s with
        routes := routes, portA := portA, portB := portB, faults := faults, draws := draws
        riderSelect := r
        governor := if r.state = .fresh then (s.setWanted ⟨mode, load, traction⟩).governor else s.governor } := by
  obtain ⟨_, _, faults, draws, recorded⟩ :=
    s.recordAccepted_riderSelect i e f (.selection mode load traction) sequenceError
  rw [State.acceptFrame, recorded, record]
  simp only [State.dispatch, State.stream]
  obtain ⟨routes, portA, portB, forwarded⟩ := State.forwardConsumed_frame (if r.state = .fresh then _ else _) .riderSelect i p e f
  refine ⟨routes, portA, portB, faults, draws, forwarded.trans ?_⟩
  split <;> rfl

end Sys2Proof.Machine

namespace Sys2Proof.Proofs
open Sys2Proof.Machine

/-- Settles O15: the accepted frame is dispatched to governor control, which writes the wanted selection alone. -/
theorem riderSelectionWanted : Obligations.RiderSelectionWanted := by
  intro s p f i mode load traction seq matched budget cls judged
  have done := exec_accepted (k := .riderSelect) matched budget (by rw [cls]; rfl) judged
  obtain ⟨routes, portA, portB, faults, draws, accepted⟩ :=
    (s.admitted p i).acceptFrame_selection i p (s.route i).fields f mode load traction seq rfl
  rw [accepted] at done
  simp only [State.admitted_riderSelect, State.admitted_now, aliveOf_eq] at done
  refine ⟨_, done, rfl, fun fresh => ?fresh, fun notFresh => ?notFresh, s.admitted_forwarder p i, s.admitted_engine p i,
    s.admitted_eval p i, s.admitted_lean p i, s.admitted_store p i⟩
  case fresh => exact (if_pos fresh).trans (by rw [State.setWanted_governor, State.admitted_governor])
  case notFresh => exact (if_neg notFresh).trans (s.admitted_governor p i)

end Sys2Proof.Proofs
end

section
/-! A command behind the standstill gate, at standstill (R177). -/

namespace Sys2Proof.Machine

/-- The count of a taken frame leaves standstill as it is, and at standstill the gate passes the command on (R177). -/
theorem State.gated_taken {s : State} (still : s.standstill) (code tag : Byte) (run : State → State) :
    (s.countTaken .service).gated code tag run = run (s.takenFrom .service) := by
  rw [s.countTaken_eq]
  exact if_pos still

/-- A gated command at standstill whose owner answers it on a state `t` goes out as the reply from `t` (R177 to R179). -/
theorem State.gated_answered {s t : State} (still : s.standstill) {code tag : Byte} {own : State → Answer} {r : Result}
    {data : List Byte} (answer : own (s.takenFrom .service) = ⟨t, r, data⟩) :
    (.next ((s.countTaken .service).gated code tag (fun s => (own s).send .service code tag)) : Host.Outcome State Fault Refusal) =
      .next (t.reply .service code tag r data) := by
  rw [State.gated_taken still]
  exact next_send answer ..

end Sys2Proof.Machine
end

section
/-! A page entry written (R121, R123): the order of the checks, and what an accepted write changes. -/

namespace Sys2Proof.Machine

/-! ## The range of an entry (R121) -/

/-- The lowest and highest value of an entry by table and index (R121). -/
def entryRange (table index : Nat) : Nat × Nat :=
  match table with
  | 0 => (0, 400)
  | 1 => (0, 500)
  | 2 => (0, 250)
  | _ => scalarRanges.getD index (0, 0)

/-- A value is accepted for an entry that exists exactly when it lies in the entry's range. -/
theorem entryValueOk_iff {page table index : Nat} (named : entryInRange page table index) (v : Nat) :
    entryValueOk table index v ↔ (entryRange table index).1 ≤ v ∧ v ≤ (entryRange table index).2 := by
  obtain ⟨-, listed, short⟩ := (entryInRange_iff ..).1 named
  match table with
  | 0 | 1 | 2 => simp [entryValueOk, entryRange]
  | 3 =>
    have short : index < scalarRanges.length := Nat.lt_succ_of_le short
    simp [entryValueOk, entryRange, List.getD_eq_getElem?_getD, List.getElem?_eq_getElem short]

/-! ## The tables of a page under a write -/

/-- A row read at another index than the one that is set. -/
theorem getD_set_ne {row : List Nat} {m n x : Nat} (apart : m ≠ n) : (row.set m x).getD n 0 = row.getD n 0 := by
  simp [List.getD_eq_getElem?_getD, apart]

/-- A write sets its index in its own table and leaves the other tables. -/
theorem Page.table_setEntry (p : Page) {table k : Nat} (listed : table ≤ 3) (other : k ≤ 3) (index v : Nat) :
    (p.setEntry table index v).table k = if k = table then (p.table k).set index v else p.table k := by
  interval_cases table <;> interval_cases k <;> rfl

theorem Page.Shaped.table_length {p : Page} (h : p.Shaped) {table : Nat} (listed : table ≤ 3) :
    (p.table table).length = if table = 3 then 8 else 13 := by
  obtain ⟨ceiling, slipTarget, brake, scalars⟩ := h
  interval_cases table
  · exact ceiling
  · exact slipTarget
  · exact brake
  · exact scalars

/-- Every entry of a page under a write: the written one has the value, any other the value it had. -/
theorem Page.Shaped.entry_setEntry {p : Page} (h : p.Shaped) {table index k : Nat} (listed : table ≤ 3)
    (short : index ≤ if table = 3 then 7 else 12) (other : k ≤ 3) (v n : Nat) :
    ((p.setEntry table index v).table k).getD n 0 = if k = table ∧ n = index then v else (p.table k).getD n 0 := by
  rw [p.table_setEntry listed other]
  by_cases own : k = table
  · subst own
    have inside : index < (p.table k).length := by
      rw [h.table_length listed]
      split <;> simp_all <;> omega
    by_cases here : n = index
    · simp [List.getD_eq_getElem?_getD, here, inside]
    · rw [if_pos rfl, if_neg (fun both => here both.2), getD_set_ne (Ne.symm here)]
  · simp [own]

/-! ## The checks and the write -/

/-- The page store after an accepted write of an entry (R123). -/
def PageStore.withEntry (t : PageStore) (page table index v : Nat) : PageStore :=
  { t.modifyPage page (fun p => p.setEntry table index v) with
    counts := { t.counts with pageWrites := bump t.counts.pageWrites } }

theorem PageStore.page_withEntry (t : PageStore) {page : Nat} (listed : page < t.pages.length) (table index v i : Nat) :
    (t.withEntry page table index v).page i = if i = page then (t.page i).setEntry table index v else t.page i := by
  split
  · next here =>
    subst here
    exact t.page_modifyPage_same _ listed
  · next elsewhere => exact t.page_modifyPage_ne _ elsewhere

section
variable (s : State) {page table index : Nat}

theorem State.writePage_unnamed (beyond : ¬ entryInRange page table index) (v : Nat) :
    s.writePage page table index v = ⟨s, .badOperand, []⟩ := by
  simp [State.writePage, beyond, answerPlain]

theorem State.writePage_rom (named : entryInRange 0 table index) (v : Nat) :
    s.writePage 0 table index v = ⟨s, .notPermitted, []⟩ := by
  simp [State.writePage, named, answerPlain]

theorem State.writePage_sealing (named : entryInRange page table index) (notRom : page ≠ 0)
    (state : (s.store.page page).state = .sealing) (v : Nat) : s.writePage page table index v = ⟨s, .busy, []⟩ := by
  simp [State.writePage, named, notRom, state, answerPlain]

theorem State.writePage_sealed (named : entryInRange page table index) (notRom : page ≠ 0)
    (state : (s.store.page page).state = .sealed) (v : Nat) : s.writePage page table index v = ⟨s, .inUse, []⟩ := by
  simp [State.writePage, named, notRom, state, answerPlain]

theorem State.writePage_beyond (named : entryInRange page table index) (notRom : page ≠ 0)
    (state : (s.store.page page).state = .opened) {v : Nat} (beyond : ¬ entryValueOk table index v) :
    s.writePage page table index v = ⟨s, .badOperand, []⟩ := by
  simp [State.writePage, named, notRom, state, beyond, answerPlain]

theorem State.writePage_done (named : entryInRange page table index) (notRom : page ≠ 0)
    (state : (s.store.page page).state = .opened) {v : Nat} (inside : entryValueOk table index v) :
    s.writePage page table index v = ⟨{ s with store := s.store.withEntry page table index v }, .done, []⟩ := by
  simp [State.writePage, named, notRom, state, inside, answerPlain, PageStore.withEntry, PageStore.modifyPage]

end

end Sys2Proof.Machine

namespace Sys2Proof.Proofs
open Sys2Proof.Machine

/-- Settles O42: each answer is the page store's in the order of its checks, and an accepted write is one entry of one page set. -/
theorem pageEntryWritten : Obligations.PageEntryWritten := by
  unfold Obligations.PageEntryWritten
  intro s tag page table index value still sound
  let u := s.takenFrom .service
  have notZero : page ≠ 0 → page.toNat ≠ 0 := mt (BitVec.eq_of_toNat_eq (y := 0))
  refine ⟨fun beyond => ?beyond, fun named rom => ?rom, fun named other state => ?sealing, fun named other state => ?sealed,
    fun named other state outside => ?outside, fun named other state inside => ?written⟩
  case beyond => exact State.gated_answered still (u.writePage_unnamed (mt (entryInRange_iff ..).1 beyond) _)
  all_goals have inRange := (entryInRange_iff ..).2 named
  case rom =>
    subst rom
    exact State.gated_answered still (u.writePage_rom inRange _)
  case sealing => exact State.gated_answered still (u.writePage_sealing inRange (notZero other) state _)
  case sealed => exact State.gated_answered still (u.writePage_sealed inRange (notZero other) state _)
  case outside =>
    exact State.gated_answered still (u.writePage_beyond inRange (notZero other) state (mt (entryValueOk_iff inRange _).1 outside))
  case written =>
    obtain ⟨pageListed, tableListed, indexListed⟩ := named
    have listed : page.toNat < s.store.pages.length := sound.length.symm ▸ Nat.lt_succ_of_le pageListed
    have pages := s.store.page_withEntry listed table.toNat index.toNat value.toNat
    refine ⟨_, State.gated_answered still
      (u.writePage_done inRange (notZero other) state ((entryValueOk_iff inRange _).2 inside)), rfl, rfl, fun i => ?_,
      fun i k n tableK => ?_⟩
    · obtain ⟨kept, -⟩ := (s.store.page i).setEntry_frame table.toNat index.toNat value.toNat
      refine (congrArg Page.state (pages i)).trans ?_
      split
      · exact kept
      · rfl
    · refine (congrArg (fun p : Page => (p.table k).getD n 0) (pages i)).trans ?_
      by_cases here : i = page.toNat
      · subst here
        simpa using (sound.shaped _ (Nat.lt_succ_of_le pageListed)).entry_setEntry tableListed indexListed tableK value.toNat n
      · simp [here]

end Sys2Proof.Proofs
end

section
/-! A seal from its command to its end (R125, R127): the checks of SEAL PAGE, and what a completed step leaves once the engine
has chosen. -/

namespace Sys2Proof.Machine

/-! ## The step that is asked for (R32, R33) -/

/-- Step `step` of the seal of a page is pending, or runs with its void mark clear. -/
def Engine.StepAsked (e : Engine) (page step : Nat) : Prop :=
  e.sealPending ∨ ∃ n, e.running = some ⟨.sealStep n, false⟩ ∧ n.page = page ∧ n.step = step

/-- A pending step is still asked for once the engine has chosen: it is left pending, or started from the seal record (R33). -/
theorem State.choose_stepAsked {s : State} {r : SealRecord} (pending : s.engine.sealPending) (record : s.store.sealRecord = some r) :
    s.choose.engine.StepAsked r.page r.step := by
  rcases s.choose_cases with ⟨e, _⟩ | ⟨_, ⟨_, e⟩ | ⟨_, ⟨x, rest, _, e⟩ | ⟨_, _, r', record', e⟩⟩⟩ <;> rw [e]
  · exact .inl pending
  · exact .inl pending
  · exact .inl pending
  · obtain rfl : r = r' := Option.some.inj (record.symm.trans record')
    exact .inr ⟨_, rfl, rfl, rfl⟩

/-! ## The checks of SEAL PAGE (R125) -/

section
variable (s : State) {page : Nat}

theorem State.sealAnswer_beyond (beyond : 7 < page) : s.sealAnswer page = .now .badOperand := if_pos beyond

theorem State.sealAnswer_sealed (listed : page ≤ 7) (state : (s.store.page page).state = .sealed) :
    s.sealAnswer page = .now .done := by
  simp [State.sealAnswer, Nat.not_lt.mpr listed, state]

theorem State.sealAnswer_taken (listed : page ≤ 7) (state : (s.store.page page).state ≠ .sealed) (taken : s.store.sealRecord ≠ none) :
    s.sealAnswer page = .now .busy := by
  simp [State.sealAnswer, Nat.not_lt.mpr listed, state, Option.isSome_iff_ne_none.2 taken]

theorem State.sealAnswer_opened (listed : page ≤ 7) (state : (s.store.page page).state = .opened) (free : s.store.sealRecord = none) :
    s.sealAnswer page = .accepted := by
  simp [State.sealAnswer, Nat.not_lt.mpr listed, state, free]

end

/-- SEAL PAGE refused or answered at once goes out as the reply that names the page (R125; log 13). -/
theorem exec_sealPage_now {s : State} (still : s.standstill) (tag : Byte) {page : Byte} {r : Result}
    (answer : (s.takenFrom .service).sealAnswer page.toNat = .now r) :
    exec (.sealPage tag page) s = .next ((s.takenFrom .service).reply .service 0x02 tag r [page]) := by
  refine (congrArg Host.Outcome.next (State.gated_taken still 0x02 tag _)).trans ?_
  rw [State.sealPageAt, answer]

/-- SEAL PAGE accepted begins the seal and is not answered yet (R125). -/
theorem exec_sealPage_accepted {s : State} (still : s.standstill) (tag : Byte) {page : Byte}
    (answer : (s.takenFrom .service).sealAnswer page.toNat = .accepted) :
    exec (.sealPage tag page) s = .next ((s.takenFrom .service).beginSeal page.toNat tag) := by
  refine (congrArg Host.Outcome.next (State.gated_taken still 0x02 tag _)).trans ?_
  rw [State.sealPageAt, answer]

/-- A seal that has begun asks for its first step (R125, R32). -/
theorem State.beginSeal_stepAsked (s : State) (page : Nat) (tag : Byte) : (s.beginSeal page tag).engine.StepAsked page 1 :=
  State.choose_stepAsked (r := ⟨page, 1, tag⟩) rfl rfl

/-! ## A completed step (R127) -/

/-- A completion of a step is its record, and then the engine's choice (R34, R127). -/
theorem exec_sealStepCompletion {s : State} {n : SealSnapshot} {v : Bool} {r : SealRecord}
    (running : s.engine.running = some ⟨.sealStep n, v⟩) (record : s.store.sealRecord = some r) :
    exec .sealStepCompletion s = .next (s.recordStep r n).finishJob := by
  simp [exec, execSealStepCompletion, running, record]

theorem State.recordStep_failed (s : State) (r : SealRecord) {n : SealSnapshot} {index : Nat} {reason : SealReason}
    (failed : n.outcome = some (index, reason)) : s.recordStep r n = s.failSeal r index reason := by
  simp [State.recordStep, failed]

theorem State.recordStep_last (s : State) {r : SealRecord} {n : SealSnapshot} (passed : n.outcome = none) (last : 4 ≤ r.step) :
    s.recordStep r n = s.passSeal r := by
  simp [State.recordStep, passed, Nat.not_lt.mpr last]

/-- A passed step 1 to 3: the engine is still busy with it, so that the next step waits for the choice that ends the completion. -/
theorem State.recordStep_more {s : State} (busy : s.engine.running ≠ none) {r : SealRecord} {n : SealSnapshot}
    (passed : n.outcome = none) (more : r.step < 4) :
    s.recordStep r n = { s with
      store := { s.store with sealRecord := some { r with step := r.step + 1 } }
      engine := { s.engine with sealPending := true } } := by
  have recorded : s.recordStep r n = s.advanceSeal r := by simp [State.recordStep, passed, more]
  exact recorded.trans (State.choose_busy busy)

/-- After a passed step 1 to 3 the next step is asked for (R127). -/
theorem State.recordStep_stepAsked {s : State} (busy : s.engine.running ≠ none) {r : SealRecord} {n : SealSnapshot}
    (passed : n.outcome = none) (more : r.step < 4) : (s.recordStep r n).finishJob.engine.StepAsked r.page (r.step + 1) := by
  rw [State.recordStep_more busy passed more]
  exact State.choose_stepAsked (r := { r with step := r.step + 1 }) rfl rfl

/-- The end of a job reaches the engine, the sample queue and governor control alone, and leaves the governor state (R33, R34). -/
theorem State.finishJob_leaves (s : State) :
    s.finishJob = { s with
      engine := s.finishJob.engine, lean := { s.lean with queue := s.finishJob.lean.queue }, governor := s.finishJob.governor } ∧
    s.finishJob.governor.state = s.governor.state :=
  ⟨State.choose_frame _, State.choose_governor_state _⟩

/-- Whatever its outcome, a recorded step leaves these blocks as they stand (R127). -/
theorem State.recordStep_leaves {s : State} (busy : s.engine.running ≠ none) (r : SealRecord) (n : SealSnapshot) :
    s.recordStep r n = { s with
      engine := (s.recordStep r n).engine, store := (s.recordStep r n).store
      portA := (s.recordStep r n).portA, commands := (s.recordStep r n).commands } := by
  cases outcome : n.outcome with
  | some failed =>
    rw [s.recordStep_failed r (index := failed.1) (reason := failed.2) outcome]
    rfl
  | none =>
    rcases Nat.lt_or_ge r.step 4 with more | last
    · rw [State.recordStep_more busy outcome more]
    · rw [s.recordStep_last outcome last]
      rfl

end Sys2Proof.Machine

namespace Sys2Proof.Proofs
open Sys2Proof.Machine

/-- Settles O43: the checks of SEAL PAGE in their order, and the three outcomes of a recorded step, each before the engine's choice. -/
theorem sealRuns : Obligations.SealRuns := by
  unfold Obligations.SealRuns
  refine ⟨fun s tag page still => ?command, fun s n v r running record => ?completion⟩
  case command =>
    let u := s.takenFrom .service
    refine ⟨fun beyond => exec_sealPage_now still tag (u.sealAnswer_beyond beyond),
      fun listed state => exec_sealPage_now still tag (u.sealAnswer_sealed listed state),
      fun listed state taken => exec_sealPage_now still tag (u.sealAnswer_taken listed state taken),
      fun listed state free => ⟨_, exec_sealPage_accepted still tag (u.sealAnswer_opened listed state free), ?_⟩⟩
    exact ⟨State.choose_store _, u.beginSeal_stepAsked _ _, State.choose_portA _, State.choose_commands _, State.choose_eval _,
      State.choose_routes _, State.choose_faults _⟩
  case completion =>
    have busy : s.engine.running ≠ none := by simp [running]
    refine ⟨_, exec_sealStepCompletion running record, fun passed more => ?more, fun passed last => ?last,
      fun index reason failed => ?failed, ?frame⟩
    case more =>
      have asked := State.recordStep_stepAsked busy passed more
      rw [State.recordStep_more busy passed more] at asked ⊢
      exact ⟨State.choose_store _, asked, State.choose_portA _, State.choose_commands _⟩
    case last =>
      rw [s.recordStep_last passed last]
      exact ⟨State.choose_store _, State.choose_portA _, State.choose_commands _⟩
    case failed =>
      rw [s.recordStep_failed r failed]
      refine ⟨State.choose_store _, (State.choose_portA _).trans ?_, (State.choose_commands _).trans ?_⟩ <;> cases reason <;> rfl
    case frame =>
      obtain ⟨ended, state⟩ := (s.recordStep r n).finishJob_leaves
      rw [ended, state, State.recordStep_leaves busy]
      exact ⟨rfl, rfl, rfl, rfl, rfl, rfl, rfl⟩

end Sys2Proof.Proofs
end

section
/-! The checks of a SEAL_STEP, entry by entry (R126): the outcome is the first index at which a check fails, with its first failed check. -/

namespace Sys2Proof.Machine

/-! ## The scan -/

/-- The entry that a scan has before each index of what it scans: `before` at the first, then the entry one below. -/
def entryBefore (before : Option Nat) (entries : List Nat) : Nat → Option Nat
  | 0 => before
  | i + 1 => entries[i]?

theorem entryBefore_cons_succ (before : Option Nat) (x : Nat) (xs : List Nat) (i : Nat) :
    entryBefore before (x :: xs) (i + 1) = entryBefore (some x) xs i := by
  cases i <;> rfl

/-- A scan passes exactly when every entry passes the checks of its index against the entry before it. -/
theorem sealScan_eq_none_iff (step hard start : Nat) (before : Option Nat) (entries : List Nat) :
    sealScan step hard start before entries = none ↔
      ∀ i v, entries[i]? = some v → sealCheckEntry step hard (start + i) v (entryBefore before entries i) = none := by
  induction entries generalizing start before with
  | nil => simp [sealScan]
  | cons x xs ih =>
    have tail := ih (start + 1) (some x)
    simp only [Nat.add_assoc, Nat.add_comm 1, ← entryBefore_cons_succ before] at tail
    rw [sealScan]
    cases first : sealCheckEntry step hard start x before with
    | some reason =>
      refine iff_of_false (by simp) fun passes => ?_
      exact nomatch first.symm.trans (passes 0 x rfl)
    | none =>
      refine tail.trans ⟨fun passes i v entry => ?_, fun passes i v entry => passes (i + 1) v entry⟩
      cases i with
      | zero =>
        obtain rfl : x = v := Option.some.inj entry
        exact first
      | succ i => exact passes i v entry

/-- A scan fails exactly with the first index at which a check fails, and the check that fails there. -/
theorem sealScan_eq_some_iff (step hard start : Nat) (before : Option Nat) (entries : List Nat) (k : Nat) (reason : SealReason) :
    sealScan step hard start before entries = some (k, reason) ↔
      ∃ i v, start + i = k ∧ entries[i]? = some v ∧
        sealCheckEntry step hard (start + i) v (entryBefore before entries i) = some reason ∧
        ∀ j w, j < i → entries[j]? = some w → sealCheckEntry step hard (start + j) w (entryBefore before entries j) = none := by
  induction entries generalizing start before with
  | nil => simp [sealScan]
  | cons x xs ih =>
    have tail := ih (start + 1) (some x)
    simp only [Nat.add_assoc, Nat.add_comm 1, ← entryBefore_cons_succ before] at tail
    rw [sealScan]
    cases first : sealCheckEntry step hard start x before with
    | some failed =>
      constructor
      · rintro ⟨⟩
        exact ⟨0, x, rfl, rfl, first, fun j _ below => absurd below j.not_lt_zero⟩
      · rintro ⟨i, v, rfl, entry, fails, earlier⟩
        cases i with
        | zero =>
          obtain rfl : x = v := Option.some.inj entry
          obtain rfl : failed = reason := Option.some.inj (first.symm.trans fails)
          rfl
        | succ i => exact nomatch first.symm.trans (earlier 0 x i.succ_pos rfl)
    | none =>
      refine tail.trans ⟨?_, ?_⟩
      · rintro ⟨i, v, at_k, entry, fails, earlier⟩
        refine ⟨i + 1, v, at_k, entry, fails, fun j w below old => ?_⟩
        cases j with
        | zero =>
          obtain rfl : x = w := Option.some.inj old
          exact first
        | succ j => exact earlier j w (Nat.lt_of_succ_lt_succ below) old
      · rintro ⟨i, v, at_k, entry, fails, earlier⟩
        cases i with
        | zero =>
          obtain rfl : x = v := Option.some.inj entry
          exact nomatch first.symm.trans fails
        | succ i => exact ⟨i, v, at_k, entry, fails, fun j w below => earlier (j + 1) w (Nat.succ_lt_succ below)⟩

/-! ## The checks of one index (R126) -/

/-- The range check of a step: the value lies in the range of its table and index (R121, R126). -/
def SealSnapshot.InRange (n : SealSnapshot) (i v : Nat) : Prop :=
  match n.step with
  | 1 => v ≤ 400
  | 2 => v ≤ 500
  | 3 => v ≤ 250
  | _ => ∃ r, scalarRanges[i]? = some r ∧ r.1 ≤ v ∧ v ≤ r.2

/-- The bound check: an entry of the ceiling row, and the limp ceiling, within the hard ceiling (R126). -/
def SealSnapshot.InBound (n : SealSnapshot) (i v : Nat) : Prop := n.step = 1 ∨ (n.step = 4 ∧ i = 6) → v ≤ n.hardCeiling

/-- The order check: an entry of the ceiling or brake row is not above the entry before it (R126). -/
def SealSnapshot.InOrder (n : SealSnapshot) (i v : Nat) : Prop :=
  n.step = 1 ∨ n.step = 3 → ∀ j w, i = j + 1 → n.entries[j]? = some w → v ≤ w

/-- The checks of one index of a step against the entry before it. -/
def SealSnapshot.check (n : SealSnapshot) (i v : Nat) : Option SealReason :=
  sealCheckEntry n.step n.hardCeiling i v (entryBefore none n.entries i)

theorem SealSnapshot.entryValueOk_iff_inRange {n : SealSnapshot} (first : 1 ≤ n.step) (last : n.step ≤ 4) (i v : Nat) :
    entryValueOk (n.step - 1) i v ↔ n.InRange i v := by
  unfold SealSnapshot.InRange
  obtain step | step | step | step : n.step = 1 ∨ n.step = 2 ∨ n.step = 3 ∨ n.step = 4 := by omega
  case inr.inr.inr =>
    cases listed : scalarRanges[i]? <;> simp [step, entryValueOk, listed]
  all_goals simp [step, entryValueOk]

theorem SealSnapshot.inOrder_iff (n : SealSnapshot) (i v : Nat) :
    n.InOrder i v ↔ ∀ b, entryBefore none n.entries i = some b → n.step = 1 ∨ n.step = 3 → v ≤ b := by
  unfold SealSnapshot.InOrder
  cases i with
  | zero => simp [entryBefore]
  | succ i =>
    exact ⟨fun ordered b below step => ordered step i b rfl below, fun ordered step j w at_i below =>
      ordered w (Nat.succ.inj at_i ▸ below) step⟩

/-- The outcome of the checks of one index: none, or the first that fails in the order range, bound, order (R126). -/
theorem SealSnapshot.check_eq {n : SealSnapshot} (first : 1 ≤ n.step) (last : n.step ≤ 4) (i v : Nat) :
    (n.check i v = none ∧ n.InRange i v ∧ n.InBound i v ∧ n.InOrder i v) ∨
    (n.check i v = some .range ∧ ¬ n.InRange i v) ∨
    (n.check i v = some .bound ∧ n.InRange i v ∧ ¬ n.InBound i v) ∨
    (n.check i v = some .order ∧ n.InRange i v ∧ n.InBound i v ∧ ¬ n.InOrder i v) := by
  rw [← SealSnapshot.entryValueOk_iff_inRange first last, SealSnapshot.inOrder_iff, SealSnapshot.InBound, SealSnapshot.check]
  unfold sealCheckEntry
  split
  · next range => exact .inr (.inl ⟨rfl, by simp [range]⟩)
  next range =>
  rw [Bool.not_eq_false] at range
  split
  · next above => exact .inr (.inr (.inl ⟨rfl, range, fun bound => by have := bound (.inl above.1); omega⟩))
  next row =>
  split
  · next above => exact .inr (.inr (.inl ⟨rfl, range, fun bound => by have := bound (.inr ⟨above.1, above.2.1⟩); omega⟩))
  next limp =>
  have bound : n.step = 1 ∨ (n.step = 4 ∧ i = 6) → v ≤ n.hardCeiling := by omega
  split
  · next b before =>
    split
    · next above =>
      exact .inr (.inr (.inr ⟨rfl, range, bound, fun order => by have := order b before above.1; omega⟩))
    · next kept => exact .inl ⟨rfl, range, bound, fun b' before' step => by grind⟩
  · next before => exact .inl ⟨rfl, range, bound, fun b before' => nomatch before.symm.trans before'⟩

theorem SealSnapshot.check_eq_none_iff {n : SealSnapshot} (first : 1 ≤ n.step) (last : n.step ≤ 4) (i v : Nat) :
    n.check i v = none ↔ n.InRange i v ∧ n.InBound i v ∧ n.InOrder i v := by
  rcases SealSnapshot.check_eq first last i v with h | h | h | h <;> simp [h]

theorem SealSnapshot.check_eq_some_iff {n : SealSnapshot} (first : 1 ≤ n.step) (last : n.step ≤ 4) (i v : Nat) (reason : SealReason) :
    n.check i v = some reason ↔
      (reason = .range ∧ ¬ n.InRange i v) ∨ (reason = .bound ∧ n.InRange i v ∧ ¬ n.InBound i v) ∨
        (reason = .order ∧ n.InRange i v ∧ n.InBound i v ∧ ¬ n.InOrder i v) := by
  rcases SealSnapshot.check_eq first last i v with h | h | h | h <;> simp [h, eq_comm]

/-! ## The outcome of a step -/

theorem SealSnapshot.outcome_eq_none_iff (n : SealSnapshot) :
    n.outcome = none ↔ ∀ i v, n.entries[i]? = some v → n.check i v = none := by
  have scan := sealScan_eq_none_iff n.step n.hardCeiling 0 none n.entries
  simp only [Nat.zero_add] at scan
  exact scan

theorem SealSnapshot.outcome_eq_some_iff (n : SealSnapshot) (i : Nat) (reason : SealReason) :
    n.outcome = some (i, reason) ↔
      (∀ j w, j < i → n.entries[j]? = some w → n.check j w = none) ∧ ∃ v, n.entries[i]? = some v ∧ n.check i v = some reason := by
  refine (sealScan_eq_some_iff n.step n.hardCeiling 0 none n.entries i reason).trans ?_
  simp only [Nat.zero_add]
  constructor
  · rintro ⟨_, v, rfl, entry, fails, earlier⟩
    exact ⟨earlier, v, entry, fails⟩
  · rintro ⟨earlier, v, entry, fails⟩
    exact ⟨i, v, rfl, entry, fails, earlier⟩

end Sys2Proof.Machine

namespace Sys2Proof.Proofs
open Sys2Proof.Machine

/-- Settles O44: the outcome is the scan's, by induction on the entries, and each index is judged range first, then bound, then order. -/
theorem sealStepChecks : Obligations.SealStepChecks := by
  unfold Obligations.SealStepChecks
  intro n first last
  have passes := SealSnapshot.check_eq_none_iff first last
  refine ⟨?_, fun i reason => ?_⟩
  · have outcome := n.outcome_eq_none_iff
    simp only [passes] at outcome
    exact outcome
  · have outcome := n.outcome_eq_some_iff i reason
    simp only [passes, SealSnapshot.check_eq_some_iff first last] at outcome
    exact outcome

end Sys2Proof.Proofs
end

section
/-! UNSEAL PAGE and MAP PAGE at the page store (R129, R131): the order of their checks, and what an accepted one changes. -/

namespace Sys2Proof.Machine

/-! ## Unsealing (R106, R129) -/

/-- A page is in use: a slot of the map names it, or governor control does as the applied page, the wanted page, or the page about to
be committed (R106, R129). -/
theorem State.pageInUse_iff (s : State) (page : Nat) :
    s.pageInUse page ↔ page ∈ s.store.pageMap ∨ page = s.governor.appliedPage ∨
      page = s.store.pageMap.getD (s.governor.wanted.mode * 3 + s.governor.wanted.load) 0 ∨
      (s.engine.ceilingRunning ∧ ∃ d, s.governor.committing = some d ∧ page = d.page) := by
  have wanted : s.wantedPage = s.store.pageMap.getD (s.governor.wanted.mode * 3 + s.governor.wanted.load) 0 := rfl
  rw [State.pageInUse, State.namedInUse, wanted]
  cases s.governor.committing <;> simp [or_assoc]

/-- The page store after a page is unsealed (R129). -/
def PageStore.unsealed (t : PageStore) (page : Nat) : PageStore :=
  { t with
    pages := t.pages.modify page (fun p => { p with state := .opened })
    counts := { t.counts with unseals := bump t.counts.unseals } }

section
variable (s : State) {page : Nat}

theorem State.unsealPageAt_beyond (beyond : 7 < page) : s.unsealPageAt page = ⟨s, .badOperand, []⟩ := if_pos beyond

theorem State.unsealPageAt_rom : s.unsealPageAt 0 = ⟨s, .notPermitted, []⟩ := rfl

theorem State.unsealPageAt_opened (notRom : page ≠ 0) (listed : page ≤ 7) (state : (s.store.page page).state = .opened) :
    s.unsealPageAt page = ⟨s, .done, []⟩ := by
  simp [State.unsealPageAt, Nat.not_lt.mpr listed, notRom, state, answerPlain]

theorem State.unsealPageAt_sealing (notRom : page ≠ 0) (listed : page ≤ 7) (state : (s.store.page page).state = .sealing) :
    s.unsealPageAt page = ⟨s, .busy, []⟩ := by
  simp [State.unsealPageAt, Nat.not_lt.mpr listed, notRom, state, answerPlain]

theorem State.unsealPageAt_inUse (notRom : page ≠ 0) (listed : page ≤ 7) (state : (s.store.page page).state = .sealed)
    (used : s.pageInUse page) : s.unsealPageAt page = ⟨s, .inUse, []⟩ := by
  simp [State.unsealPageAt, Nat.not_lt.mpr listed, notRom, state, used, answerPlain]

theorem State.unsealPageAt_done (notRom : page ≠ 0) (listed : page ≤ 7) (state : (s.store.page page).state = .sealed)
    (unused : ¬ s.pageInUse page) : s.unsealPageAt page = ⟨{ s with store := s.store.unsealed page }, .done, []⟩ := by
  simp [State.unsealPageAt, Nat.not_lt.mpr listed, notRom, state, unused, answerPlain, PageStore.unsealed, PageStore.modifyPage]

end

/-! ## The page map (R131) -/

section
variable (s : State) {slot expected new : Nat}

theorem State.mapPageAt_unnamed (beyond : ¬ (slot ≤ 11 ∧ expected ≤ 7 ∧ new ≤ 7)) :
    s.mapPageAt slot expected new = ⟨s, .badOperand, []⟩ := if_pos (by omega)

theorem State.mapPageAt_notSealed (named : slot ≤ 11 ∧ expected ≤ 7 ∧ new ≤ 7) (state : (s.store.page new).state ≠ .sealed) :
    s.mapPageAt slot expected new = ⟨s, .notSealed, []⟩ := by
  rw [State.mapPageAt, if_neg (by omega), if_pos state, answerPlain]

theorem State.mapPageAt_conflict (named : slot ≤ 11 ∧ expected ≤ 7 ∧ new ≤ 7) (state : (s.store.page new).state = .sealed)
    (conflict : s.store.pageMap.getD slot 0 ≠ expected) :
    s.mapPageAt slot expected new =
      ⟨{ s with store := { s.store with counts := { s.store.counts with mapConflicts := bump s.store.counts.mapConflicts } } },
        .mapConflict, [byteOf (s.store.pageMap.getD slot 0)]⟩ := by
  rw [State.mapPageAt, if_neg (by omega), if_neg (not_not.2 state)]
  exact if_pos conflict

theorem State.mapPageAt_done (named : slot ≤ 11 ∧ expected ≤ 7 ∧ new ≤ 7) (state : (s.store.page new).state = .sealed)
    (held : s.store.pageMap.getD slot 0 = expected) :
    s.mapPageAt slot expected new =
      ⟨{ s with store := { s.store with
          pageMap := s.store.pageMap.set slot new
          counts := { s.store.counts with maps := bump s.store.counts.maps } } }, .done, []⟩ := by
  rw [State.mapPageAt, if_neg (by omega), if_neg (not_not.2 state)]
  exact if_neg (not_not.2 held)

end

end Sys2Proof.Machine

namespace Sys2Proof.Proofs
open Sys2Proof.Machine

/-- Settles O45: each answer is the page store's in the order of its checks. -/
theorem pagesUnsealedAndMapped : Obligations.PagesUnsealedAndMapped := by
  unfold Obligations.PagesUnsealedAndMapped
  intro s tag still
  let u := s.takenFrom .service
  refine ⟨fun b => ?unsealed, fun slot expected new => ?mapped⟩
  case unsealed =>
    have notZero : b ≠ 0 → b.toNat ≠ 0 := mt (BitVec.eq_of_toNat_eq (y := 0))
    have inUse := u.pageInUse_iff b.toNat
    refine ⟨fun beyond => State.gated_answered still (u.unsealPageAt_beyond beyond), fun rom => ?_,
      fun other listed state => State.gated_answered still (u.unsealPageAt_opened (notZero other) listed state),
      fun other listed state => State.gated_answered still (u.unsealPageAt_sealing (notZero other) listed state),
      fun other listed state used => State.gated_answered still (u.unsealPageAt_inUse (notZero other) listed state (inUse.2 used)),
      fun other listed state unused =>
        State.gated_answered still (u.unsealPageAt_done (notZero other) listed state (mt inUse.1 unused))⟩
    subst rom
    exact State.gated_answered still u.unsealPageAt_rom
  case mapped =>
    exact ⟨fun beyond => State.gated_answered still (u.mapPageAt_unnamed beyond),
      fun named state => State.gated_answered still (u.mapPageAt_notSealed named state),
      fun named state conflict => State.gated_answered still (u.mapPageAt_conflict named state conflict),
      fun named state held => State.gated_answered still (u.mapPageAt_done named state held)⟩

end Sys2Proof.Proofs
end

section
/-! The items of the chassis settings by number (R189), and the values each takes (R133 to R138). -/

namespace Sys2Proof.Machine

/-! ## The items by number (R189) -/

/-- The number of an item: the inverse of `chassisItem` on the items that are listed. -/
def ChassisItem.number : ChassisItem → Nat
  | .windowLower w => 3 * w
  | .windowUpper w => 3 * w + 1
  | .windowStep w => 3 * w + 2
  | .frontRadius i => 18 + i
  | .rearRadius i => 32 + i
  | .decimation => 46
  | .reportToA => 47
  | .unknownAction .a => 48
  | .unknownAction .b => 49
  | .alertLevel c => 50 + 3 * c.index
  | .alertMasked c => 51 + 3 * c.index
  | .alertRelease c => 52 + 3 * c.index
  | .vectorBase => 86

/-- An item lies in its table: six windows, and fourteen entries in each radius row (R134, R135). -/
def ChassisItem.listed : ChassisItem → Bool
  | .windowLower w => decide (w < 6)
  | .windowUpper w => decide (w < 6)
  | .windowStep w => decide (w < 6)
  | .frontRadius i => decide (i < 14)
  | .rearRadius i => decide (i < 14)
  | .decimation => true
  | .reportToA => true
  | .unknownAction _ => true
  | .alertLevel _ => true
  | .alertMasked _ => true
  | .alertRelease _ => true
  | .vectorBase => true

/-- Each of the 87 numbers names an item of the tables, and that item has the number. -/
theorem chassisItem_listed : ∀ n < 87, (chassisItem n).any (fun i => i.listed && decide (i.number = n)) = true := by decide

theorem chassisItem_number {n : Nat} {i : ChassisItem} (known : chassisItem n = some i) : i.listed ∧ i.number = n := by
  have small : n < 87 := by
    by_contra beyond
    exact nomatch (chassisItem_beyond (by omega)).symm.trans known
  simpa [known] using chassisItem_listed n small

theorem chassisItem_unknown {n : Nat} (unknown : chassisItem n = none) : 86 < n := by
  by_contra small
  have named := chassisItem_listed n (by omega)
  rw [unknown] at named
  exact nomatch named

/-! ## The values an item takes (R134 to R138) -/

/-- A bound as the item of its number reads it: signed in the three inertial windows (R134, R189). -/
def itemBound (n : Nat) (value : Half) : Int := if n < 9 then value.toInt else value.toNat

/-- The range of a bound by the number of its item (R134). -/
def BoundAllowed (n : Nat) (value : Half) : Prop :=
  if n < 9 then -32767 ≤ itemBound n value ∧ itemBound n value ≤ 32767 else if n < 15 then True else value.toNat ≤ 400

/-- The values that an item takes, by its number: the ranges of R134 to R138, and no value where no item has the number. -/
def Chassis.Allowed (c : Chassis) (n : Nat) (value : Half) : Prop :=
  if n < 18 then
    (n % 3 = 0 → BoundAllowed n value ∧ itemBound n value ≤ (c.window (n / 3)).upper) ∧
      (n % 3 = 1 → BoundAllowed n value ∧ (c.window (n / 3)).lower ≤ itemBound n value)
  else if n < 46 then 3686 ≤ value.toNat ∧ value.toNat ≤ 4096
  else if n = 46 then 1 ≤ value.toNat ∧ value.toNat ≤ 8
  else if n = 47 then value.toNat ≤ 1
  else if n < 50 then value.toNat ≤ 2
  else if n < 86 then (if n % 3 = 2 then value.toNat ≤ 3 else value.toNat ≤ 1)
  else n = 86 ∧ value.toNat ≤ 15

theorem itemBound_eq (n : Nat) (value : Half) : itemBound n value = boundValue (n / 3) value := by
  simp only [itemBound, boundValue, Nat.div_lt_iff_lt_mul (show 0 < 3 by decide)]

theorem boundAllowed_iff {n : Nat} (value : Half) : BoundAllowed n value ↔ boundOk (n / 3) (boundValue (n / 3) value) := by
  have small := value.isLt
  rw [BoundAllowed, itemBound_eq, boundOk, boundRange, boundValue]
  simp only [Nat.div_lt_iff_lt_mul (show 0 < 3 by decide), decide_eq_true_eq]
  split
  · rfl
  split
  · simp; omega
  · simp

theorem flagOf_isSome_iff (n : Nat) : (flagOf n).isSome ↔ n ≤ 1 := by
  match n with
  | 0 | 1 | n + 2 => simp [flagOf]

theorem unknownActionOf_isSome_iff (n : Nat) : (unknownActionOf n).isSome ↔ n ≤ 2 := by
  match n with
  | 0 | 1 | 2 | n + 3 => simp [unknownActionOf]

theorem releaseOf_isSome_iff (n : Nat) : (releaseOf n).isSome ↔ n ≤ 1 := by
  match n with
  | 0 | 1 | n + 2 => simp [releaseOf]

theorem levelOf_isSome_iff (n : Nat) : (levelOf n).isSome ↔ n ≤ 3 := by
  unfold levelOf
  split <;> simp <;> omega

/-- A number that names no item takes no value. -/
theorem Chassis.not_allowed_unknown (c : Chassis) {n : Nat} (beyond : 86 < n) (value : Half) : ¬ c.Allowed n value := by
  unfold Chassis.Allowed
  repeat rw [if_neg (by omega)]
  omega

/-- What a window's items take: a bound within its range and on its side of the other bound, and any maximum step (R134). -/
theorem Chassis.allowed_window (c : Chassis) {w k : Nat} (listed : w < 6) (field : k < 3) (value : Half) :
    c.Allowed (3 * w + k) value ↔
      (k = 0 → boundOk w (boundValue w value) ∧ boundValue w value ≤ (c.window w).upper) ∧
        (k = 1 → boundOk w (boundValue w value) ∧ (c.window w).lower ≤ boundValue w value) := by
  have window : (3 * w + k) / 3 = w := by omega
  have rest : (3 * w + k) % 3 = k := by omega
  rw [Chassis.Allowed, if_pos (by omega), boundAllowed_iff, itemBound_eq, window, rest]

/-- What the items of the radius rows take (R135). -/
theorem Chassis.allowed_radius (c : Chassis) {n : Nat} (low : 18 ≤ n) (high : n < 46) (value : Half) :
    c.Allowed n value ↔ 3686 ≤ value.toNat ∧ value.toNat ≤ 4096 := by
  rw [Chassis.Allowed, if_neg (by omega), if_pos high]

/-- What the alert map's items take (R138). -/
theorem Chassis.allowed_alert (c : Chassis) (k : FaultClass) {field : Nat} (listed : field < 3) (value : Half) :
    c.Allowed (50 + field + 3 * k.index) value ↔ value.toNat ≤ if field = 0 then 3 else 1 := by
  have small := k.index_lt
  have level : (50 + field + 3 * k.index) % 3 = 2 ↔ field = 0 := by omega
  rw [Chassis.Allowed, if_neg (by omega), if_neg (by omega), if_neg (by omega), if_neg (by omega), if_neg (by omega),
    if_pos (by omega)]
  simp only [level]
  split <;> rfl

/-- An item of the tables takes exactly the values in its range. -/
theorem Chassis.write_isSome_iff (c : Chassis) {i : ChassisItem} (listed : i.listed) (value : Half) :
    (c.write i value).isSome ↔ c.Allowed i.number value := by
  cases i with
  | windowLower w =>
    have allowed := c.allowed_window (k := 0) (of_decide_eq_true listed) (by decide) value
    simpa [Chassis.write, ChassisItem.number] using allowed.symm
  | windowUpper w =>
    have allowed := c.allowed_window (k := 1) (of_decide_eq_true listed) (by decide) value
    simpa [Chassis.write, ChassisItem.number] using allowed.symm
  | windowStep w =>
    have allowed := c.allowed_window (k := 2) (of_decide_eq_true listed) (by decide) value
    simpa [Chassis.write, ChassisItem.number] using allowed.symm
  | frontRadius j =>
    have listed : j < 14 := of_decide_eq_true listed
    simp [Chassis.write, ChassisItem.number, c.allowed_radius (n := 18 + j) (by omega) (by omega)]
  | rearRadius j =>
    have listed : j < 14 := of_decide_eq_true listed
    simp [Chassis.write, ChassisItem.number, c.allowed_radius (n := 32 + j) (by omega) (by omega)]
  | decimation => simp [Chassis.write, ChassisItem.number, Chassis.Allowed]
  | reportToA => simp [Chassis.write, ChassisItem.number, Chassis.Allowed, flagOf_isSome_iff]
  | unknownAction p => cases p <;> simp [Chassis.write, ChassisItem.number, Chassis.Allowed, unknownActionOf_isSome_iff]
  | alertLevel k =>
    simp [Chassis.write, ChassisItem.number, c.allowed_alert k (field := 0) (by decide), levelOf_isSome_iff]
  | alertMasked k =>
    simp [Chassis.write, ChassisItem.number, c.allowed_alert k (field := 1) (by decide), flagOf_isSome_iff]
  | alertRelease k =>
    simp [Chassis.write, ChassisItem.number, c.allowed_alert k (field := 2) (by decide), releaseOf_isSome_iff]
  | vectorBase => simp [Chassis.write, ChassisItem.number, Chassis.Allowed]

end Sys2Proof.Machine
end

section
/-! A chassis setting read back after a write (R133): the written item has the value, and every other item the value it had. -/

namespace Sys2Proof.Machine

/-! ## The two bytes of a value (R189) -/

theorem twoBytes_toNat (v : Half) : twoBytes v.toNat = bytesOf v := by simp [twoBytes]

theorem twoBytesSigned_boundValue (w : Nat) (v : Half) : twoBytesSigned (boundValue w v) = bytesOf v := by
  unfold twoBytesSigned boundValue
  split <;> simp

/-! ## Codes that were read give the code back (R186, R189) -/

theorem flagCode_of_flagOf {n : Nat} {b : Bool} (read : flagOf n = some b) : flagCode b = n := by
  match n with
  | 0 | 1 => cases read; rfl

theorem UnknownAction.code_of_read {n : Nat} {a : UnknownAction} (read : unknownActionOf n = some a) : a.code = n := by
  match n with
  | 0 | 1 | 2 => cases read; rfl

theorem ReleaseType.code_of_read {n : Nat} {r : ReleaseType} (read : releaseOf n = some r) : r.code = n := by
  match n with
  | 0 | 1 => cases read; rfl

theorem val_of_levelOf {n : Nat} {l : Level} (read : levelOf n = some l) : l.val = n := by
  unfold levelOf at read
  split at read
  · cases read; rfl
  · cases read

/-! ## A window or the items of a class changed -/

theorem Chassis.window_modifyWindow_same (c : Chassis) {w : Nat} (f : Window → Window) (listed : w < c.windows.length) :
    (c.modifyWindow w f).window w = f (c.window w) := by
  simp [Chassis.modifyWindow, Chassis.window, List.getD_eq_getElem?_getD, List.getElem?_eq_getElem listed]

theorem Chassis.window_modifyWindow_ne (c : Chassis) {w w' : Nat} (f : Window → Window) (other : w' ≠ w) :
    (c.modifyWindow w f).window w' = c.window w' := by
  simp [Chassis.modifyWindow, Chassis.window, List.getD_eq_getElem?_getD, other.symm]

theorem Chassis.setting_modifyAlert_same (c : Chassis) (k : FaultClass) (f : AlertSetting → AlertSetting)
    (length : c.alertMap.length = 12) : settingOf (c.modifyAlert k f).alertMap k = f (settingOf c.alertMap k) := by
  have listed : k.index < c.alertMap.length := length ▸ k.index_lt
  simp [Chassis.modifyAlert, settingOf, List.getD_eq_getElem?_getD, List.getElem?_eq_getElem listed]

theorem Chassis.setting_modifyAlert_ne (c : Chassis) {k k' : FaultClass} (f : AlertSetting → AlertSetting) (other : k' ≠ k) :
    settingOf (c.modifyAlert k f).alertMap k' = settingOf c.alertMap k' := by
  have apart : k.index ≠ k'.index := fun same => other (FaultClass.index_injective same).symm
  simp [Chassis.modifyAlert, settingOf, List.getD_eq_getElem?_getD, apart]

/-- A window changed leaves the read of every item but those whose field of the window it changes. -/
theorem Chassis.read_modifyWindow (c : Chassis) {w : Nat} {f : Window → Window} {j : ChassisItem}
    (listed : w < c.windows.length) (lower : j = .windowLower w → ∀ y, (f y).lower = y.lower := by intros; rfl)
    (upper : j = .windowUpper w → ∀ y, (f y).upper = y.upper := by intros; rfl)
    (step : j = .windowStep w → ∀ y, (f y).maxStep = y.maxStep := by intros; rfl) :
    (c.modifyWindow w f).read j = c.read j := by
  cases j with
  | windowLower w' | windowUpper w' | windowStep w' =>
    by_cases same : w' = w
    · subst same
      simp_all [Chassis.read, c.window_modifyWindow_same f listed]
    · simp [Chassis.read, c.window_modifyWindow_ne f same]
  | unknownAction p => cases p <;> rfl
  | _ => rfl

/-- A class's items changed leave the read of every item but those whose mark of the class they change. -/
theorem Chassis.read_modifyAlert (c : Chassis) {k : FaultClass} {f : AlertSetting → AlertSetting} {j : ChassisItem}
    (length : c.alertMap.length = 12) (level : j = .alertLevel k → ∀ y, (f y).level = y.level := by intros; rfl)
    (masked : j = .alertMasked k → ∀ y, (f y).masked = y.masked := by intros; rfl)
    (release : j = .alertRelease k → ∀ y, (f y).release = y.release := by intros; rfl) :
    (c.modifyAlert k f).read j = c.read j := by
  cases j with
  | alertLevel k' | alertMasked k' | alertRelease k' =>
    by_cases same : k' = k
    · subst same
      simp_all [Chassis.read, c.setting_modifyAlert_same _ f length]
    · simp [Chassis.read, c.setting_modifyAlert_ne f same]
  | unknownAction p => cases p <;> rfl
  | _ => rfl

/-- Outside the windows and the alert map, settings that agree in what an item reads agree in the item. -/
theorem Chassis.read_congr {c d : Chassis} {j : ChassisItem} (windows : d.windows = c.windows := by rfl)
    (alertMap : d.alertMap = c.alertMap := by rfl)
    (front : ∀ m, j = .frontRadius m → d.frontRadius.getD m 0 = c.frontRadius.getD m 0 := by intros; rfl)
    (rear : ∀ m, j = .rearRadius m → d.rearRadius.getD m 0 = c.rearRadius.getD m 0 := by intros; rfl)
    (decimation : j = .decimation → d.decimation = c.decimation := by intros; rfl)
    (reportToA : j = .reportToA → d.reportToA = c.reportToA := by intros; rfl)
    (unknownA : j = .unknownAction .a → d.unknownA = c.unknownA := by intros; rfl)
    (unknownB : j = .unknownAction .b → d.unknownB = c.unknownB := by intros; rfl)
    (vectorBase : j = .vectorBase → d.vectorBase = c.vectorBase := by intros; rfl) : d.read j = c.read j := by
  cases j with
  | windowLower w | windowUpper w | windowStep w => rw [Chassis.read, Chassis.read, Chassis.window, Chassis.window, windows]
  | alertLevel k | alertMasked k | alertRelease k => rw [Chassis.read, Chassis.read, alertMap]
  | frontRadius m => rw [Chassis.read, Chassis.read, front m rfl]
  | rearRadius m => rw [Chassis.read, Chassis.read, rear m rfl]
  | decimation => rw [Chassis.read, Chassis.read, decimation rfl]
  | reportToA => rw [Chassis.read, Chassis.read, reportToA rfl]
  | unknownAction p =>
    cases p with
    | a => rw [Chassis.read, Chassis.read, unknownA rfl]
    | b => rw [Chassis.read, Chassis.read, unknownB rfl]
  | vectorBase => rw [Chassis.read, Chassis.read, vectorBase rfl]

/-! ## A write read back (R133) -/

/-- The tables have the lengths of R134, R135 and R138. -/
structure Chassis.Shaped (c : Chassis) : Prop where
  windows : c.windows.length = 6
  front : c.frontRadius.length = 14
  rear : c.rearRadius.length = 14
  alertMap : c.alertMap.length = 12

/-- What the settings are after an accepted write, item by item. -/
def Chassis.Written (c d : Chassis) (v : Half) : ChassisItem → Prop
  | .windowLower w => d = c.modifyWindow w (fun y => { y with lower := boundValue w v })
  | .windowUpper w => d = c.modifyWindow w (fun y => { y with upper := boundValue w v })
  | .windowStep w => d = c.modifyWindow w (fun y => { y with maxStep := if v.toNat = 0 then none else some v.toNat })
  | .frontRadius j => d = { c with frontRadius := c.frontRadius.set j v.toNat }
  | .rearRadius j => d = { c with rearRadius := c.rearRadius.set j v.toNat }
  | .decimation => d = { c with decimation := v.toNat }
  | .reportToA => ∃ b, flagCode b = v.toNat ∧ d = { c with reportToA := b }
  | .unknownAction .a => ∃ x : UnknownAction, x.code = v.toNat ∧ d = { c with unknownA := x }
  | .unknownAction .b => ∃ x : UnknownAction, x.code = v.toNat ∧ d = { c with unknownB := x }
  | .alertLevel k => ∃ l : Level, l.val = v.toNat ∧ d = c.modifyAlert k (fun a => { a with level := l })
  | .alertMasked k => ∃ b, flagCode b = v.toNat ∧ d = c.modifyAlert k (fun a => { a with masked := b })
  | .alertRelease k => ∃ r : ReleaseType, r.code = v.toNat ∧ d = c.modifyAlert k (fun a => { a with release := r })
  | .vectorBase => d = { c with vectorBase := v.toNat }

/-- A write under a condition that is accepted writes. -/
theorem eq_of_ite_some {p : Prop} [Decidable p] {α : Type} {x y : α} (written : (if p then some x else none) = some y) : y = x := by
  obtain ⟨-, same⟩ := Option.ite_none_right_eq_some.1 written
  exact (Option.some.inj same).symm

/-- A write of a code that is accepted writes what the code is read as. -/
theorem written_of_map {α β : Type} {read : Option α} {code : α → Nat} {n : Nat} {write : α → β} {y : β}
    (coded : ∀ {x}, read = some x → code x = n) (written : read.map write = some y) : ∃ x, code x = n ∧ y = write x := by
  obtain ⟨x, found, rfl⟩ := Option.map_eq_some_iff.1 written
  exact ⟨x, coded found, rfl⟩

theorem Chassis.written_of_write {c d : Chassis} {i : ChassisItem} {v : Half} (written : c.write i v = some d) :
    c.Written d v i := by
  cases i with
  | windowLower w => exact eq_of_ite_some written
  | windowUpper w => exact eq_of_ite_some written
  | windowStep w => exact (Option.some.inj written).symm
  | frontRadius j => exact eq_of_ite_some written
  | rearRadius j => exact eq_of_ite_some written
  | decimation => exact eq_of_ite_some written
  | reportToA => exact written_of_map flagCode_of_flagOf written
  | unknownAction p => cases p <;> exact written_of_map UnknownAction.code_of_read written
  | alertLevel k => exact written_of_map (code := Fin.val) val_of_levelOf written
  | alertMasked k => exact written_of_map flagCode_of_flagOf written
  | alertRelease k => exact written_of_map ReleaseType.code_of_read written
  | vectorBase => exact eq_of_ite_some written

/-- The written item reads as the value. -/
theorem Chassis.Shaped.read_written {c d : Chassis} (shaped : c.Shaped) {i : ChassisItem} (listed : i.listed) {v : Half}
    (written : c.write i v = some d) : d.read i = bytesOf v := by
  have written := Chassis.written_of_write written
  rw [← twoBytes_toNat]
  cases i with
  | windowLower w | windowUpper w =>
    have inside : w < c.windows.length := shaped.windows ▸ of_decide_eq_true listed
    subst written
    rw [Chassis.read, c.window_modifyWindow_same _ inside, twoBytes_toNat]
    exact twoBytesSigned_boundValue w v
  | windowStep w =>
    have inside : w < c.windows.length := shaped.windows ▸ of_decide_eq_true listed
    subst written
    rw [Chassis.read, c.window_modifyWindow_same _ inside]
    by_cases unlimited : v.toNat = 0 <;> simp [unlimited]
  | frontRadius j =>
    have inside : j < c.frontRadius.length := shaped.front ▸ of_decide_eq_true listed
    subst written
    simp [Chassis.read, List.getD_eq_getElem?_getD, inside]
  | rearRadius j =>
    have inside : j < c.rearRadius.length := shaped.rear ▸ of_decide_eq_true listed
    subst written
    simp [Chassis.read, List.getD_eq_getElem?_getD, inside]
  | decimation | vectorBase =>
    subst written
    rfl
  | reportToA =>
    obtain ⟨b, code, rfl⟩ := written
    exact congrArg twoBytes code
  | unknownAction p =>
    cases p <;> obtain ⟨x, code, rfl⟩ := written <;> exact congrArg twoBytes code
  | alertLevel k | alertMasked k | alertRelease k =>
    obtain ⟨x, code, rfl⟩ := written
    rw [Chassis.read, c.setting_modifyAlert_same _ _ shaped.alertMap]
    exact congrArg twoBytes code

/-- Every other item reads as it did. -/
theorem Chassis.Shaped.read_other {c d : Chassis} (shaped : c.Shaped) {i j : ChassisItem} (listed : i.listed) {v : Half}
    (written : c.write i v = some d) (other : j ≠ i) : d.read j = c.read j := by
  have written := Chassis.written_of_write written
  cases i with
  | windowLower w =>
    subst written
    exact c.read_modifyWindow (shaped.windows ▸ of_decide_eq_true listed) (lower := (absurd · other))
  | windowUpper w =>
    subst written
    exact c.read_modifyWindow (shaped.windows ▸ of_decide_eq_true listed) (upper := (absurd · other))
  | windowStep w =>
    subst written
    exact c.read_modifyWindow (shaped.windows ▸ of_decide_eq_true listed) (step := (absurd · other))
  | frontRadius m =>
    subst written
    exact Chassis.read_congr (front := fun n at_n => getD_set_ne fun same => other (same ▸ at_n))
  | rearRadius m =>
    subst written
    exact Chassis.read_congr (rear := fun n at_n => getD_set_ne fun same => other (same ▸ at_n))
  | decimation =>
    subst written
    exact Chassis.read_congr (decimation := (absurd · other))
  | reportToA =>
    obtain ⟨b, -, rfl⟩ := written
    exact Chassis.read_congr (reportToA := (absurd · other))
  | unknownAction p =>
    cases p with
    | a =>
      obtain ⟨x, -, rfl⟩ := written
      exact Chassis.read_congr (unknownA := (absurd · other))
    | b =>
      obtain ⟨x, -, rfl⟩ := written
      exact Chassis.read_congr (unknownB := (absurd · other))
  | alertLevel k =>
    obtain ⟨l, -, rfl⟩ := written
    exact c.read_modifyAlert shaped.alertMap (level := (absurd · other))
  | alertMasked k =>
    obtain ⟨b, -, rfl⟩ := written
    exact c.read_modifyAlert shaped.alertMap (masked := (absurd · other))
  | alertRelease k =>
    obtain ⟨r, -, rfl⟩ := written
    exact c.read_modifyAlert shaped.alertMap (release := (absurd · other))
  | vectorBase =>
    subst written
    exact Chassis.read_congr (vectorBase := (absurd · other))

end Sys2Proof.Machine
end

section
/-! WRITE CHASSIS SETTING at the page store (R133, R138): refused, or done with the fault unit told of a write of the alert map. -/

namespace Sys2Proof.Machine

/-- The state after the settings are replaced by an accepted write, which is counted (R133, R139). -/
def State.withChassis (s : State) (d : Chassis) : State :=
  { s with store := { s.store with
      chassis := d
      counts := { s.store.counts with chassisWrites := bump s.store.counts.chassisWrites } } }

theorem State.writeChassis_unknown (s : State) {n : Nat} (unknown : chassisItem n = none) (v : Half) :
    s.writeChassis n v = ⟨s, .badOperand, []⟩ := by
  simp [State.writeChassis, unknown, answerPlain]

theorem State.writeChassis_refused (s : State) {n : Nat} {i : ChassisItem} (known : chassisItem n = some i) {v : Half}
    (refused : s.store.chassis.write i v = none) : s.writeChassis n v = ⟨s, .badOperand, []⟩ := by
  simp [State.writeChassis, known, refused, answerPlain]

theorem State.writeChassis_done (s : State) {n : Nat} {i : ChassisItem} (known : chassisItem n = some i) {v : Half} {d : Chassis}
    (written : s.store.chassis.write i v = some d) :
    s.writeChassis n v = ⟨(s.withChassis d).alertMapWritten i s.store.chassis, .done, []⟩ := by
  simp [State.writeChassis, known, written, answerPlain, State.withChassis]

/-- A write of the alert map reaches the fault unit and Port A alone (R171). -/
theorem State.alertMapWritten_frame (s : State) (i : ChassisItem) (before : Chassis) :
    s.alertMapWritten i before =
      { s with faults := (s.alertMapWritten i before).faults, portA := (s.alertMapWritten i before).portA } := by
  unfold State.alertMapWritten
  split <;> rfl

theorem State.alertMapWritten_store (s : State) (i : ChassisItem) (before : Chassis) : (s.alertMapWritten i before).store = s.store := by
  rw [s.alertMapWritten_frame]

/-- An item outside the alert map is not the fault unit's (R138). -/
theorem State.alertMapWritten_other (s : State) {i : ChassisItem} (other : i.number < 50 ∨ i.number = 86) (before : Chassis) :
    s.alertMapWritten i before = s := by
  cases i with
  | alertLevel k | alertMasked k | alertRelease k =>
    have small := k.index_lt
    simp only [ChassisItem.number] at other
    omega
  | _ => rfl

/-- Two states read every number alike whose item they hold alike (R133). -/
theorem State.readChassis_congr {s t : State} {n : Nat}
    (same : ∀ i, chassisItem n = some i → t.store.chassis.read i = s.store.chassis.read i) :
    (t.readChassis n).data = (s.readChassis n).data := by
  cases known : chassisItem n with
  | none => rw [State.readChassis_refused known, State.readChassis_refused known]
  | some i =>
    rw [State.readChassis_known known, State.readChassis_known known]
    exact same i known

end Sys2Proof.Machine

namespace Sys2Proof.Proofs
open Sys2Proof.Machine

/-- Settles O46: a number names at most one item, an item takes exactly the values in its range, and a value taken reads back in
that item alone. -/
theorem chassisSettingWritten : Obligations.ChassisSettingWritten := by
  unfold Obligations.ChassisSettingWritten
  intro s tag item value still windows front rear alertMap
  let u := s.takenFrom .service
  have shaped : s.store.chassis.Shaped := ⟨windows, front, rear, alertMap⟩
  cases known : chassisItem item.toNat with
  | none =>
    have beyond := s.store.chassis.not_allowed_unknown (chassisItem_unknown known) value
    exact ⟨fun _ => State.gated_answered still (u.writeChassis_unknown known value), fun allowed => absurd allowed beyond⟩
  | some i =>
    obtain ⟨listed, number⟩ := chassisItem_number known
    have takes := s.store.chassis.write_isSome_iff listed value
    rw [number] at takes
    refine ⟨fun refused => State.gated_answered still (u.writeChassis_refused known ?refused), fun allowed => ?written⟩
    case refused => exact Option.not_isSome_iff_eq_none.1 (mt takes.1 refused)
    case written =>
      obtain ⟨d, written⟩ := Option.isSome_iff_exists.1 (takes.2 allowed)
      refine ⟨_, State.gated_answered still (u.writeChassis_done known written), ?_, ?_, ?_, fun m other => ?_, fun outside => ?_⟩
      · rw [State.alertMapWritten_store]
        exact State.alertMapWritten_frame ..
      · rw [State.alertMapWritten_store]
        rfl
      · rw [State.readChassis_known known, State.alertMapWritten_store]
        exact shaped.read_written listed written
      · refine State.readChassis_congr fun j named => ?_
        rw [State.alertMapWritten_store]
        refine shaped.read_other listed written ?_
        rintro rfl
        exact other ((chassisItem_number named).2.symm.trans number)
      · rw [State.alertMapWritten_other _ (number.symm ▸ outside)]
        exact ⟨rfl, rfl⟩

end Sys2Proof.Proofs
end

section
/-! What the fault unit does to Port A: it offers alert frames alone, which keep a port's bounds and leave a sound port sound. -/

namespace Sys2Proof.Machine

/-! ## Alert frames -/

/-- Port counts are no part of a port's bounds. -/
theorem Port.Bounded.withCounts {p : Port} (h : p.Bounded) (c : PortCounts) : ({ p with counts := c } : Port).Bounded :=
  ⟨h.depth3, h.depth2, h.levels1, h.depth0, h.attempts, h.credits, h.off, h.on⟩

/-- An alert frame keeps the bounds of a port, also of one whose choice is still to be made (R144, R146, R147). -/
theorem Port.Bounded.offerAlert {p : Port} (h : p.Bounded) (l : Level) (f : Frame) : (p.offerAlert l f).Bounded := by
  unfold Port.offerAlert
  split
  · exact h.withCounts _
  · rename_i on
    exact Port.Bounded.arbitrate ⟨h.depth3, h.depth2, Port.join1_levels h.levels1 l f, h.depth0, h.attempts, h.credits,
      fun off => absurd off on, h.on⟩

/-- What one alert frame keeps of a port, any number of them keeps. -/
theorem Port.AlertedTo.keeps {P : Port → Prop} (kept : ∀ {r : Port}, P r → ∀ l f, P (r.offerAlert l f)) {p q : Port}
    (alerts : p.AlertedTo q) (h : P p) : P q := by
  obtain ⟨frames, rfl⟩ := alerts
  induction frames generalizing p with
  | nil => exact h
  | cons x frames ih => exact ih (kept h x.1 x.2)

theorem Port.AlertedTo.bounded {p q : Port} (alerts : p.AlertedTo q) (h : p.Bounded) : q.Bounded :=
  alerts.keeps Port.Bounded.offerAlert h

theorem Port.AlertedTo.sound {p q : Port} (alerts : p.AlertedTo q) (h : p.Sound) : q.Sound := alerts.keeps Port.Sound.offerAlert h

/-! ## Every operation of the fault unit touches Port A by alert frames alone -/

theorem FaultSide.reassert_alerted (env : FaultEnv) (c : FaultClass) (x : FaultSide) :
    x.port.AlertedTo (x.reassert env c).port := by
  unfold FaultSide.reassert
  simp only
  split
  · exact .refl _
  · exact ⟨[(_, _)], rfl⟩

theorem FaultSide.ackRelease_alerted (env : FaultEnv) (c : FaultClass) (x : FaultSide) :
    x.port.AlertedTo (x.ackRelease env c).port := FaultSide.release_alerted env c _

/-- An acknowledgement, refused or taken (R163). -/
theorem FaultSide.acknowledge_alerted (env : FaultEnv) (number : Nat) (x : FaultSide) :
    x.port.AlertedTo (x.acknowledge env number).1.port := by
  unfold FaultSide.acknowledge
  split
  · exact .refl _
  · split
    · exact .refl _
    · split
      · split
        · exact .refl _
        · split
          · exact x.reassert_alerted env _
          · exact x.ackRelease_alerted env _
      · exact x.ackRelease_alerted env _

/-- A write of the alert map: a moved class is removed and added, a masked one removed, an unmasked one added, one made FOLLOW
without its cause released (R171). -/
theorem FaultSide.mapWritten_alerted (env : FaultEnv) (c : FaultClass) (old : AlertSetting) (x : FaultSide) :
    x.port.AlertedTo (x.mapWritten env c old).port := by
  unfold FaultSide.mapWritten
  simp only
  split
  · exact .refl _
  · split
    · split
      · exact .refl _
      · exact (FaultSide.levelRemove_alerted env old.level x).trans (FaultSide.levelAdd_alerted env _ (x.levelRemove env old.level))
    · split
      · split <;> exact FaultSide.levelRemove_alerted env _ x
      · split
        · exact FaultSide.levelAdd_alerted env _ x
        · split
          · split
            · split
              · exact .refl _
              · exact FaultSide.release_alerted env c x
            · split <;> exact .refl _
          · exact .refl _

/-- A repeat of a level's frame, and its last one in CLOSING (R169). -/
theorem FaultSide.repeatExpiry_alerted (env : FaultEnv) (l : Level) (x : FaultSide) :
    x.port.AlertedTo (x.repeatExpiry env l).port := by
  unfold FaultSide.repeatExpiry
  split
  · exact FaultSide.emit_alerted env l _
  · exact FaultSide.emit_alerted env l _
  · exact .refl _

theorem FaultSide.resyncLevel_alerted (env : FaultEnv) (x : FaultSide) (l : Level) :
    x.port.AlertedTo (x.resyncLevel env l).port := by
  unfold FaultSide.resyncLevel
  split <;> exact FaultSide.emit_alerted env l _

/-- The four frames of a resynchronisation (R172). -/
theorem FaultSide.resync_alerted (env : FaultEnv) (x : FaultSide) : x.port.AlertedTo (x.resync env).port :=
  (((x.resyncLevel_alerted env 3).trans (FaultSide.resyncLevel_alerted env _ 2)).trans
    (FaultSide.resyncLevel_alerted env _ 1)).trans (FaultSide.resyncLevel_alerted env _ 0)

theorem State.alertMapWritten_alerted (s : State) (item : ChassisItem) (before : Chassis) :
    s.portA.AlertedTo (s.alertMapWritten item before).portA := by
  unfold State.alertMapWritten
  split
  · exact FaultSide.mapWritten_alerted s.faultEnv _ _ s.faultSide
  · exact .refl _

end Sys2Proof.Machine
end

section
/-! The ports through an attempt's end, an entry into OFF and a recovery: the bounds are kept, and where a frame waits the arbiter
chooses before the event has ended (R147, R149 to R154). -/

namespace Sys2Proof.Machine

/-! ## One port -/

theorem modeOf_ne_off (n : Nat) : modeOf n ≠ .off := by
  unfold modeOf
  split <;> exact nofun

theorem Port.Sound.withCounts {p : Port} (h : p.Sound) (c : PortCounts) : ({ p with counts := c } : Port).Sound :=
  ⟨h.1.withCounts c, h.2⟩

/-- The frame whose attempt ends is that of a port in service (R152). -/
theorem Port.on_of_attempting {p : Port} {f : SlotFrame} (attempting : p.attempting = some f) : p.mode ≠ .off := by
  intro off
  simp [Port.attempting, off] at attempting

/-- The recovery timer is due in OFF alone, from 50 ms (R154; log 3). -/
theorem Port.recoveryDue_iff (p : Port) (now : Stamp) :
    p.recoveryDue now ↔ p.mode = .off ∧ ∃ start, p.recoveryTimer = some start ∧ 50 ≤ ageOf now start := by
  unfold Port.recoveryDue
  cases p.recoveryTimer with
  | none => simp
  | some start =>
    have due : timerDue now start recoverySetting ↔ 50 ≤ ageOf now start := decide_eq_true_iff
    simp [due]

/-- A success lowers the error count, and the state follows it (R149, R150). -/
theorem Port.Bounded.succeed {p : Port} (h : p.Bounded) (on : p.mode ≠ .off) : p.succeed.Bounded := by
  obtain ⟨-, low, stopped⟩ := h.on on
  exact ⟨h.depth3, h.depth2, h.levels1, h.depth0, nofun, h.credits, fun off => absurd off (modeOf_ne_off _),
    fun _ => ⟨rfl, (Nat.sub_le _ _).trans low, stopped⟩⟩

/-- Below 248 a failure raises the error count by 8, within 255, and the state follows it (R149, R151). -/
theorem Port.Bounded.raiseError {p : Port} (h : p.Bounded) (on : p.mode ≠ .off) (low : p.errorCount < 248) :
    p.raiseError.Bounded := by
  obtain ⟨-, -, stopped⟩ := h.on on
  have high : p.errorCount + 8 ≤ 255 := by omega
  exact ⟨h.depth3, h.depth2, h.levels1, h.depth0, h.attempts, h.credits, fun off => absurd off (modeOf_ne_off _),
    fun _ => ⟨rfl, high, stopped⟩⟩

/-- A port that is not OFF keeps its bounds when its slot's frame is replaced or leaves, the failed attempts below the limit. -/
theorem Port.Bounded.withSlot {p : Port} (h : p.Bounded) (on : p.mode ≠ .off) {x : Option SlotFrame}
    (attempts : ∀ f, x = some f → f.failed < 8) (streak : Nat) (c : PortCounts) :
    ({ p with slot := x, giveUpStreak := streak, counts := c } : Port).Bounded :=
  ⟨h.depth3, h.depth2, h.levels1, h.depth0, attempts, h.credits, fun off => absurd off on, h.on⟩

/-- An entry into OFF leaves nothing held and the recovery timer running (R152, R153). -/
theorem Port.Sound.enterOff {p : Port} (h : p.Bounded) (now : Stamp) : (p.enterOff now).Sound :=
  ⟨⟨Nat.zero_le _, Nat.zero_le _, List.nodup_nil, Nat.zero_le _, nofun, h.credits, fun _ => ⟨rfl, rfl, rfl, rfl, rfl, rfl, nofun⟩,
    fun on => absurd rfl on⟩, fun on => absurd rfl on⟩

/-- A recovered port holds nothing, as it held nothing in OFF (R152, R154). -/
theorem Port.Sound.recover {p : Port} (h : p.Bounded) (off : p.mode = .off) : p.recover.Sound := by
  obtain ⟨slot, q3, q2, q1, q0, -, -⟩ := h.off off
  exact ⟨⟨h.depth3, h.depth2, h.levels1, h.depth0, h.attempts, ⟨le_rfl, le_rfl, le_rfl⟩, nofun, fun _ => ⟨rfl, Nat.zero_le _, rfl⟩⟩,
    fun _ _ => ⟨q3, q2, q1, q0⟩⟩

end Sys2Proof.Machine
end

section
/-! Every step keeps both ports sound: the ends of an attempt and the recovery, the frames that the blocks offer, and then each
command. -/

namespace Sys2Proof.Machine

/-! ## The owners' answers that leave the ports -/

/-- Port A and Port B. -/
def State.ports (s : State) : Port × Port := (s.portA, s.portB)

theorem State.ports_writePage (s : State) (page table index v : Nat) : (s.writePage page table index v).state.ports = s.ports := by
  unfold State.writePage
  repeat' split
  all_goals rfl

theorem State.ports_unsealPageAt (s : State) (page : Nat) : (s.unsealPageAt page).state.ports = s.ports := by
  unfold State.unsealPageAt
  repeat' split
  all_goals rfl

theorem State.ports_mapPageAt (s : State) (slot expected new : Nat) : (s.mapPageAt slot expected new).state.ports = s.ports := by
  unfold State.mapPageAt
  simp only
  repeat' split
  all_goals rfl

theorem State.ports_writeRoute (s : State) (entry field v : Nat) : (s.writeRoute entry field v).state.ports = s.ports := by
  unfold State.writeRoute
  repeat' split
  all_goals rfl

theorem State.ports_enableRouteAt (s : State) (entry : Nat) : (s.enableRouteAt entry).state.ports = s.ports := by
  unfold State.enableRouteAt
  repeat' split
  all_goals rfl

theorem State.ports_setMonitor (s : State) (value : Nat) : (s.setMonitor value).state.ports = s.ports := by
  unfold State.setMonitor
  split <;> rfl

/-! ## A port at which the arbiter has still to choose -/

/-- The arbiter has still to choose at a port that is within its bounds; the other port is sound. -/
structure State.ChoiceDue (s : State) (p : PortId) : Prop where
  bounded : (s.port p).Bounded
  other : (s.port p.other).Sound

theorem State.portsSound_iff (s : State) (p : PortId) : s.PortsSound ↔ (s.port p).Sound ∧ (s.port p.other).Sound := by
  cases p with
  | a => exact Iff.rfl
  | b => exact And.comm

theorem State.ChoiceDue.setPort {s : State} {p : PortId} (h : s.ChoiceDue p) {x : Port} (bounded : x.Bounded) :
    (s.setPort p x).ChoiceDue p := ⟨by rwa [State.port_setPort_same], by rw [State.port_setPort_other]; exact h.other⟩

/-- A hand-off leaves the choice due, whichever port it is due at (R155, R158). -/
theorem State.ChoiceDue.handOff {s : State} {p : PortId} (h : s.ChoiceDue p) (x : HandOff) : (s.handOff x).ChoiceDue p := by
  have alerts := s.handOff_alerted x
  cases p with
  | a => exact ⟨alerts.bounded h.bounded, h.other⟩
  | b => exact ⟨h.bounded, alerts.sound h.other⟩

/-- The choice makes both ports sound (R147). -/
theorem State.ChoiceDue.arbitrate {s : State} {p : PortId} (h : s.ChoiceDue p) : (s.arbitrate p).PortsSound := by
  rw [State.portsSound_iff _ p, State.port_arbitrate_same, State.port_arbitrate_other]
  exact ⟨⟨h.bounded.arbitrate, Port.arbitrate_chosen _⟩, h.other⟩

/-! ## Power-on reset (R156) -/

/-- After power-on reset both ports are empty. -/
theorem State.reset_portsSound : State.reset.PortsSound := by
  have empty : resetPort.Sound :=
    ⟨⟨Nat.zero_le _, Nat.zero_le _, List.nodup_nil, Nat.zero_le _, nofun, ⟨le_rfl, le_rfl, le_rfl⟩, nofun,
      fun _ => ⟨rfl, Nat.zero_le _, rfl⟩⟩, fun _ _ => ⟨rfl, rfl, rfl, rfl⟩⟩
  exact ⟨empty, empty⟩

namespace State.PortsSound

/-! ## What leaves the ports, or offers to them -/

theorem port {s : State} (h : s.PortsSound) (p : PortId) : (s.port p).Sound := ((s.portsSound_iff p).1 h).1

/-- What leaves both ports as they were. -/
theorem of_ports {s t : State} (h : s.PortsSound) (e : t.ports = s.ports) : t.PortsSound := by
  obtain ⟨a, b⟩ := Prod.mk.inj e
  unfold State.PortsSound
  rwa [a, b]

/-- What reaches Port A by alert frames alone, and Port B not at all. -/
theorem of_alerted {s t : State} (h : s.PortsSound) (a : s.portA.AlertedTo t.portA) (b : t.portB = s.portB) : t.PortsSound :=
  ⟨a.sound h.1, b ▸ h.2⟩

theorem setPort {s : State} (h : s.PortsSound) (p : PortId) {x : Port} (sound : x.Sound) : (s.setPort p x).PortsSound := by
  rw [State.portsSound_iff _ p, State.port_setPort_same, State.port_setPort_other]
  exact ⟨sound, ((s.portsSound_iff p).1 h).2⟩

theorem handOff {s : State} (h : s.PortsSound) (x : HandOff) : (s.handOff x).PortsSound := h.of_alerted (s.handOff_alerted x) rfl

theorem handOffs {s : State} (h : s.PortsSound) (hs : List HandOff) : (s.handOffs hs).PortsSound :=
  h.of_alerted (s.handOffs_alerted hs) rfl

theorem offer {s : State} (h : s.PortsSound) (p : PortId) (q : PlainQueue) (f : Frame) : (s.offer p q f).PortsSound :=
  h.setPort p ((h.port p).offer q f)

/-- A reply is an offer to Port A's Q0 (R179). -/
theorem reply {s : State} (h : s.PortsSound) (x : Sender) (code tag : Byte) (r : Result) (data : List Byte) :
    (s.reply x code tag r data).PortsSound := ⟨h.1.offer .q0 _, h.2⟩

/-- The engine's choice leaves the ports. -/
theorem choose {s : State} (h : s.PortsSound) : s.choose.PortsSound := h.of_ports (by simp [State.ports])

theorem finishJob {s : State} (h : s.PortsSound) : s.finishJob.PortsSound := h.of_ports (by simp [State.ports])

theorem choiceDue {s : State} (h : s.PortsSound) (p : PortId) : s.ChoiceDue p :=
  ⟨(h.port p).1, ((s.portsSound_iff p).1 h).2⟩

/-! ## The ends of an attempt, and recovery (R149 to R154) -/

theorem transmitSuccess {s : State} (h : s.PortsSound) {p : PortId} (on : (s.port p).mode ≠ .off) :
    (s.transmitSuccess p).PortsSound := by
  have sent := (h.choiceDue p).setPort ((h.port p).1.succeed on)
  unfold State.transmitSuccess
  simp only
  split
  · exact (sent.handOff _).arbitrate
  · exact sent.arbitrate

/-- A frame given up leaves the slot, and the arbiter chooses after the streak's third has been told (R151, R155). -/
theorem giveUpFrame {s : State} {p : PortId} (h : s.ChoiceDue p) (on : (s.port p).mode ≠ .off) :
    (s.giveUpFrame p).PortsSound := by
  have dropped := h.setPort (x := (s.port p).giveUp) (h.bounded.withSlot on (x := none) nofun _ _)
  unfold State.giveUpFrame
  simp only
  split
  · exact (dropped.handOff _).arbitrate
  · exact dropped.arbitrate

theorem transmitFailure {s : State} (h : s.PortsSound) {p : PortId} (on : (s.port p).mode ≠ .off) (f : SlotFrame) :
    (s.transmitFailure p f).PortsSound := by
  unfold State.transmitFailure
  simp only
  split
  · exact (h.setPort p (Port.Sound.enterOff ((h.port p).1.withCounts _) s.now)).handOff _
  · rename_i low
    have raised : (s.port p).countFailure.raiseError.Bounded := ((h.port p).1.withCounts _).raiseError on (Nat.lt_of_not_le low)
    have raised_on : (s.port p).countFailure.raiseError.mode ≠ .off := modeOf_ne_off _
    split
    · rename_i below
      exact h.setPort p ⟨raised.withSlot raised_on (by rintro _ ⟨⟩; exact below) _ _, fun _ empty => nomatch empty⟩
    · exact giveUpFrame ((h.choiceDue p).setPort raised) (by rwa [State.port_setPort_same])

theorem recoverPort {s : State} (h : s.PortsSound) {p : PortId} (off : (s.port p).mode = .off) : (s.recoverPort p).PortsSound := by
  have told : ((s.setPort p (s.port p).recover).portAbsent p).PortsSound :=
    (h.setPort p (Port.Sound.recover (h.port p).1 off)).handOff _
  cases p with
  | a => exact told.of_alerted (FaultSide.resync_alerted _ _) rfl
  | b => exact told

/-! ## Reports, answers and forwarded frames -/

/-- A lean report is offered to Port B, and to Port A while the switch is on (R58). -/
theorem decimate {s : State} (h : s.PortsSound) : s.decimate.PortsSound := by
  rcases Nat.lt_or_ge (s.lean.decimation + 1) s.store.chassis.decimation with waits | due
  · rw [State.decimate_waits waits]
    exact h
  · rw [State.decimate_due due]
    refine ⟨?_, h.2.offer .q2 s.leanReport⟩
    simp only
    split
    · exact h.1.offer .q2 s.leanReport
    · exact h.1

/-- A held request is answered at Port B, and monitored at Port A (R89, R90, R96, R98). -/
theorem answer {s : State} (h : s.PortsSound) (r : HeldRequest) (late : Bool) : (s.answer r late).PortsSound := by
  rw [State.answer_eq]
  refine ⟨?_, h.2.offer .q3 (s.torqueCommand r late)⟩
  simp only
  split
  · exact h.1.offer .q0 (s.monitorFrame r late)
  · exact h.1

theorem expireHold {s : State} (h : s.PortsSound) : s.expireHold.PortsSound := by
  rcases s.expireHold_cases with ⟨-, e⟩ | ⟨-, r, -, e⟩ <;> rw [e]
  · exact h
  · exact (h.answer r true).handOff _

theorem forwardFrame {s : State} (h : s.PortsSound) (index : Nat) (p : PortId) (e : RouteFields) (f : Frame) :
    (s.forwardFrame index p e f).PortsSound := by
  have counted : (s.countRoute index RouteCounts.forward).PortsSound := h
  unfold State.forwardFrame
  split
  · exact h
  · exact counted.offer _ _ _
  · exact counted.offer _ _ _

theorem countUnknown {s : State} (h : s.PortsSound) (p : PortId) (f : UnknownCounts → UnknownCounts) :
    (s.countUnknown p f).PortsSound := h.of_ports (by simp [State.ports])

theorem unknownFrame {s : State} (h : s.PortsSound) (p : PortId) (f : Frame) : (s.unknownFrame p f).PortsSound := by
  unfold State.unknownFrame
  split
  · exact h.countUnknown p _
  · exact (h.countUnknown p _).offer _ _ _
  · exact (h.countUnknown p _).offer _ _ _

/-! ## Streams and their consumers -/

theorem moveStream {s : State} (h : s.PortsSound) (i : StreamId) (source : Source) (r : StreamRecord) :
    (s.moveStream i source r).1.PortsSound := h.of_ports (by simp [State.ports])

theorem floods (xs : List (Nat × RouteEntry)) {acc : State × List HandOff} (h : acc.1.PortsSound) :
    (xs.foldl floodEntry acc).1.PortsSound := by
  induction xs generalizing acc with
  | nil => exact h
  | cons x xs ih =>
    refine ih ?_
    unfold floodEntry
    simp only
    split
    · exact h
    · exact h.moveStream _ _ _

theorem windowExpiry {s : State} (h : s.PortsSound) : s.windowExpiry.PortsSound := by
  unfold State.windowExpiry
  refine State.PortsSound.handOffs (floods _ (acc := (_, [])) ?_) _
  exact h.of_ports rfl

/-- A sample joins the queue, and a full queue is told as an overrun (R38, R39). -/
theorem joinSample {s : State} (h : s.PortsSound) (x : Sample) : (s.joinSample x).PortsSound := by
  have room : s.makeRoom.PortsSound := by
    unfold State.makeRoom
    split
    · split
      · exact State.PortsSound.handOff (h.of_ports rfl) _
      · exact h
    · exact h
  exact State.PortsSound.choose (room.of_ports rfl)

theorem askCeiling {s : State} (h : s.PortsSound) : s.askCeiling.PortsSound := by
  rcases s.askCeiling_cases with ⟨e, -⟩ | ⟨-, -, e⟩ <;> rw [e]
  · exact h
  · exact State.PortsSound.choose (h.of_ports rfl)

theorem dispatch {s : State} (h : s.PortsSound) (i : StreamId) (index : Nat) (e : RouteFields) (f : Frame) (v : Values) :
    (s.dispatch i index e f v).PortsSound := by
  cases v with
  | inertial roll yaw lateral =>
    simp only [State.dispatch]
    split
    · exact h.joinSample _
    · exact h
  | speed v => exact h
  | torque t clamped => exact State.PortsSound.askCeiling (h.of_ports rfl)
  | selection mode load traction =>
    simp only [State.dispatch]
    split
    · exact h.of_ports rfl
    · exact h

theorem supervise {s : State} (h : s.PortsSound) (i : StreamId) (index : Nat) (p : PortId) (e : RouteFields) (f : Frame) :
    (s.supervise i index p e f).PortsSound := by
  have counted : ∀ g, (s.countRoute index g).PortsSound := fun _ => h
  unfold State.supervise
  split
  · exact ((counted _).moveStream i _ _).handOffs _
  · exact counted _
  · rename_i v sequenceError _
    have recorded : (s.recordAccepted i index e f v sequenceError).PortsSound := ((counted _).moveStream i _ _).handOffs _
    have dispatched := recorded.dispatch i index e f v
    unfold State.acceptFrame State.forwardConsumed
    split
    · exact dispatched
    · exact dispatched.forwardFrame _ _ _ _

/-! ## Commands -/

/-- An answer is sent as a reply to Port A (R178, R179). -/
theorem answered {a : Answer} (h : a.state.PortsSound) (x : Sender) (code tag : Byte) : (a.send x code tag).PortsSound :=
  h.reply x code tag a.result a.data

/-- A command behind the standstill gate keeps what its owner keeps, and a refusal is a reply (R177). -/
theorem gated {s : State} (h : s.PortsSound) (code tag : Byte) {run : State → State} (kept : (run s).PortsSound) :
    (s.gated code tag run).PortsSound := by
  unfold State.gated
  split
  · exact kept
  · exact State.PortsSound.reply (h.of_ports rfl) _ _ _ _ _

theorem sealPageAt {s : State} (h : s.PortsSound) (tag page : Byte) : (s.sealPageAt tag page).PortsSound := by
  unfold State.sealPageAt
  split
  · exact State.PortsSound.choose (h.of_ports rfl)
  · exact h.reply _ _ _ _ _

theorem disableRouteAt {s : State} (h : s.PortsSound) (entry : Nat) : (s.disableRouteAt entry).state.PortsSound := by
  have disabled : (s.disableEnabled entry).PortsSound := by
    have changed : ∀ g, (s.modifyRoute entry g).PortsSound := fun _ => h
    unfold State.disableEnabled
    simp only
    split
    · exact changed _
    · exact ((changed _).moveStream _ _ _).handOffs _
  unfold State.disableRouteAt
  split
  · exact h
  · split
    · exact disabled
    · exact h
    · exact h.of_ports rfl

theorem writeChassis {s : State} (h : s.PortsSound) (n : Nat) (v : Half) : (s.writeChassis n v).state.PortsSound := by
  unfold State.writeChassis
  split
  · exact h
  · split
    · exact h
    · refine h.of_alerted (State.alertMapWritten_alerted _ _ _) ?_
      rw [answerPlain, State.alertMapWritten_frame]

theorem acknowledgeAt {s : State} (h : s.PortsSound) (number : Nat) : (s.acknowledgeAt number).state.PortsSound :=
  h.of_alerted (FaultSide.acknowledge_alerted s.faultEnv number s.faultSide) rfl

/-- A governor restart reaches Port A by its hand-offs alone (R173, R184). -/
theorem restart {s : State} (h : s.PortsSound) : s.restart.PortsSound := by
  refine State.PortsSound.handOffs ?_ restartHandOffs
  exact h.of_ports rfl

/-- Every command that the command unit runs keeps the ports sound (R178). -/
theorem runCommand {s : State} (h : s.PortsSound) (c : Instr) : (s.runCommand c).PortsSound := by
  cases c with
  | writePageEntry tag page table index value => exact h.gated _ _ ((h.of_ports (s.ports_writePage _ _ _ _)).answered _ _ _)
  | sealPage tag page => exact h.gated _ _ (h.sealPageAt tag page)
  | unsealPage tag page => exact h.gated _ _ ((h.of_ports (s.ports_unsealPageAt _)).answered _ _ _)
  | mapPage tag slot expected new => exact h.gated _ _ ((h.of_ports (s.ports_mapPageAt _ _ _)).answered _ _ _)
  | writeRouteField tag entry field value => exact h.gated _ _ ((h.of_ports (s.ports_writeRoute _ _ _)).answered _ _ _)
  | enableRoute tag entry => exact h.gated _ _ ((h.of_ports (s.ports_enableRouteAt _)).answered _ _ _)
  | disableRoute tag entry => exact h.gated _ _ ((h.disableRouteAt _).answered _ _ _)
  | writeChassisSetting tag item value => exact h.gated _ _ ((h.writeChassis _ _).answered _ _ _)
  | restartGovernor tag =>
    exact h.gated _ _ (run := fun s => s.restart.reply .service 0x09 tag .done []) (h.restart.reply _ _ _ _ _)
  | monitorOnOff tag value => exact answered (h.of_ports (s.ports_setMonitor _)) _ _ _
  | clearCapture tag => exact State.PortsSound.reply (h.of_ports rfl) .service 0x0B tag .done []
  | ackAlert sender tag cls => exact answered (h.acknowledgeAt _) _ _ _
  | readPageEntry tag page table index => exact answered (by rwa [State.state_readPage]) _ _ _
  | readRouteField tag entry field => exact answered (by rwa [State.state_readRoute]) _ _ _
  | readChassisSetting tag item => exact answered (by rwa [State.state_readChassis]) _ _ _
  | readState sender tag item selector part => exact answered (by rwa [State.state_readItem]) _ _ _
  | readCounter tag block selector counter => exact answered (by rwa [State.state_readCount]) _ _ _
  | readCapture sender tag => exact (h.reply _ _ _ _ _).reply _ _ _ _ _
  | _ => exact h

theorem countTaken {s : State} (h : s.PortsSound) (x : Sender) : (s.countTaken x).PortsSound := h

theorem takeCommandFrame {s : State} (h : s.PortsSound) (sender : Sender) (data : List Byte) :
    (s.takeCommandFrame sender data).PortsSound := by
  unfold State.takeCommandFrame State.runFrame
  simp only
  split
  · exact h.of_ports rfl
  · split
    · exact State.PortsSound.reply (h.of_ports rfl) _ _ _ _ _
    · split
      · exact (h.countTaken sender).runCommand _
      · exact State.PortsSound.reply (h.of_ports rfl) _ _ _ _ _

/-! ## Reception -/

theorem treat {s : State} (h : s.PortsSound) (index : Nat) (p : PortId) (e : RouteFields) (f : Frame) :
    (s.treat index p e f).PortsSound := by
  unfold State.treat
  split
  · exact h.supervise _ _ _ _ _
  · exact h.supervise _ _ _ _ _
  · exact h.supervise _ _ _ _ _
  · exact h.supervise _ _ _ _ _
  · exact h.supervise _ _ _ _ _
  · exact h.takeCommandFrame _ _
  · exact h.takeCommandFrame _ _
  · exact h.forwardFrame _ _ _ _

theorem deliver {s : State} (h : s.PortsSound) (p : PortId) (f : Frame) : (s.deliver p f).PortsSound := by
  have changed : ∀ i g, (s.modifyRoute i g).PortsSound := fun _ _ => h
  unfold State.deliver State.matchedFrame
  split
  · split
    · exact (changed _ _).treat _ _ _ _
    · exact changed _ _
  · exact h.unknownFrame p f

/-- A frame at an OFF port, a foreign frame and a delivered one are counted at the port (R140, R141, R156). -/
theorem receivedFrame {s : State} (h : s.PortsSound) (p : PortId) (f : Frame) {t : State}
    (e : exec (.receivedFrame p f) s = .next t) : t.PortsSound := by
  cases e
  split
  · exact h.setPort p ((h.port p).withCounts _)
  · split
    · exact (h.setPort p ((h.port p).withCounts _)).handOff _
    · exact (h.setPort p ((h.port p).withCounts _)).deliver p f

/-! ## Completions -/

theorem leanCompletion {s t : State} (h : s.PortsSound) (e : exec .leanCompletion s = .next t) : t.PortsSound := by
  cases e
  split
  · rename_i n isVoid _
    split
    · exact State.PortsSound.choose (h.of_ports rfl)
    · have told : (s.leanTold n).PortsSound := h.of_alerted (State.handOff_alerted _ _) rfl
      exact told.decimate.finishJob
  · exact h

/-- A commit reaches Port A by its hand-offs alone (R110, R117). -/
theorem commit {s : State} (h : s.PortsSound) (d : Decision) (folded : Bool) : (s.commit d folded).PortsSound :=
  h.of_alerted (State.handOffs_alerted { s with governor := s.governor.commit d folded } _) rfl

theorem ceilingCompletion {s t : State} (h : s.PortsSound) (e : exec .ceilingCompletion s = .next t) : t.PortsSound := by
  cases e
  split
  · rename_i n isVoid _
    split
    · exact State.PortsSound.choose (h.of_ports rfl)
    · have committed : (s.evaluated n).PortsSound :=
        commit (s := { s with eval := s.eval.write n (s.decisionOf n) (s.store.page (s.decisionOf n).page) }) h _ _
      rw [State.ceilingHandOff_parts]
      refine State.PortsSound.finishJob ?_
      rcases (s.evaluated n).answerAtCompletion_cases with ⟨r, -, e⟩ | ⟨-, e⟩ <;> rw [e]
      · exact committed.answer r false
      · exact committed
  · exact h

/-- A seal step goes on to the next, or its end is answered (R127). -/
theorem recordStep {s : State} (h : s.PortsSound) (r : SealRecord) (n : SealSnapshot) : (s.recordStep r n).PortsSound := by
  unfold State.recordStep
  split
  · exact State.PortsSound.reply (h.of_ports rfl) _ _ _ _ _
  · split
    · exact State.PortsSound.choose (h.of_ports rfl)
    · exact State.PortsSound.reply (h.of_ports rfl) _ _ _ _ _

theorem sealStepCompletion {s t : State} (h : s.PortsSound) (e : exec .sealStepCompletion s = .next t) : t.PortsSound := by
  cases e
  split
  · exact (h.recordStep _ _).finishJob
  · exact h

/-! ## Every command, and the step -/

/-- An update under a condition keeps what the update keeps under it. -/
theorem ite {c : Prop} [Decidable c] {s t : State} (h : s.PortsSound) (kept : c → t.PortsSound) :
    (if c then t else s).PortsSound := by
  split
  · exact kept ‹c›
  · exact h

theorem of_exec {c : Instr} {s t : State} (h : s.PortsSound) (e : exec c s = .next t) : t.PortsSound := by
  cases c with
  | powerOnReset => cases e; exact State.reset_portsSound
  | receivedFrame p f => exact h.receivedFrame p f e
  | policingWindowExpiry => cases e; exact h.ite fun _ => h.windowExpiry
  | staleExpiry i => cases e; exact h.ite fun _ => h.of_ports (by simp [State.ports])
  | lostExpiry i => cases e; exact h.ite fun _ => (h.moveStream i _ _).handOffs _
  | jobStart => cases e; exact h.choose
  | leanCompletion => exact h.leanCompletion e
  | ceilingCompletion => exact h.ceilingCompletion e
  | sealStepCompletion => exact h.sealStepCompletion e
  | holdExpiry => cases e; exact h.expireHold
  | startTimerExpiry => cases e; exact h.ite fun _ => State.PortsSound.handOff (h.of_ports rfl) _
  | transmitArbiterChoice p => cases e; exact (h.choiceDue p).arbitrate
  | transmitSuccess p =>
    cases e
    split
    · rename_i attempting
      exact h.transmitSuccess (Port.on_of_attempting attempting)
    · exact h
  | transmitFailure p =>
    cases e
    split
    · rename_i attempting
      exact h.transmitFailure (Port.on_of_attempting attempting) _
    · exact h
  | recoveryTimerExpiry p =>
    cases e
    exact h.ite fun due => h.recoverPort (((s.port p).recoveryDue_iff s.now).1 due).1
  | repeatTimerExpiry l => cases e; exact h.ite fun _ => h.of_alerted (FaultSide.repeatExpiry_alerted _ l s.faultSide) rfl
  | timeBaseAdvance => cases e; exact h.of_ports rfl
  | _ =>
    rw [exec_carried rfl] at e
    cases e
    exact (h.countTaken _).runCommand _

theorem of_step {s t : State} (h : s.PortsSound) (e : step s = .next t) : t.PortsSound := by
  unfold step at e
  split at e
  · cases e
    rcases s.idle_cases with ⟨-, e⟩ | ⟨-, e⟩ <;> rw [e]
    · exact h.expireHold
    · exact h.of_ports rfl
  · rename_i rest _
    have taken : ({ s with pending := rest } : State).PortsSound := h
    exact taken.of_exec e

end State.PortsSound
end Sys2Proof.Machine

namespace Sys2Proof.Proofs
open Sys2Proof.Machine

/-- Settles O53, by the case of the command. -/
theorem portsKept : Obligations.PortsKept := fun _ _ sound e => sound.of_step e

end Sys2Proof.Proofs
end

section
/-! The arbiter's choice, queue by queue, with the credits of the round in force (R147, R148). -/

namespace Sys2Proof.Machine

/-! ## What the choice takes -/

theorem Port.arbitrate_none {p : Port} (h : p.mode = .off ∨ p.slot ≠ none) : p.arbitrate = p := by
  unfold Port.arbitrate
  exact if_pos (h.imp_right Option.isSome_iff_ne_none.2)

section

variable {p : Port} (on : p.mode ≠ .off) (free : p.slot = none)
include on free

theorem Port.arbitrate_q3 {f : Frame} {rest : List Frame} (head : p.q3 = f :: rest) :
    p.arbitrate = { p with q3 := rest, slot := some ⟨f, .q3, 0⟩ } := by
  simp [Port.arbitrate, on, free, head]

theorem Port.arbitrate_credit (empty : p.q3 = []) : p.arbitrate = p.roundForChoice.takeByCredit := by
  simp [Port.arbitrate, on, free, empty]

end

theorem Port.takeByCredit_q2 {p : Port} {f : Frame} {rest : List Frame} (head : p.q2 = f :: rest) (credit : 0 < p.credit2) :
    p.takeByCredit = { p with q2 := rest, credit2 := p.credit2 - 1, slot := some ⟨f, .q2, 0⟩ } := by
  simp [Port.takeByCredit, Port.eligible2, head, credit]

theorem Port.takeByCredit_q1 {p : Port} (pass2 : p.q2 = [] ∨ p.credit2 = 0) {a : LevelFrame} {rest : List LevelFrame}
    (head : p.q1 = a :: rest) (credit : 0 < p.credit1) :
    p.takeByCredit = { p with q1 := rest, credit1 := p.credit1 - 1, slot := some ⟨a.frame, .q1, 0⟩ } := by
  have not2 : p.eligible2 = false := by simpa [Port.eligible2, Nat.pos_iff_ne_zero, or_iff_not_imp_left] using pass2
  simp [Port.takeByCredit, not2, Port.eligible1, head, credit]

theorem Port.takeByCredit_q0 {p : Port} (pass2 : p.q2 = [] ∨ p.credit2 = 0) (pass1 : p.q1 = [] ∨ p.credit1 = 0) {f : Frame}
    {rest : List Frame} (head : p.q0 = f :: rest) (credit : 0 < p.credit0) :
    p.takeByCredit = { p with q0 := rest, credit0 := p.credit0 - 1, slot := some ⟨f, .q0, 0⟩ } := by
  have not2 : p.eligible2 = false := by simpa [Port.eligible2, Nat.pos_iff_ne_zero, or_iff_not_imp_left] using pass2
  have not1 : p.eligible1 = false := by simpa [Port.eligible1, Nat.pos_iff_ne_zero, or_iff_not_imp_left] using pass1
  simp [Port.takeByCredit, not2, not1, Port.eligible0, head, credit]

/-! ## The credits of the round (R148) -/

/-- Each of Q2, Q1 and Q0 is empty or without credit. -/
abbrev Port.Spent (p : Port) : Prop :=
  (p.q2 = [] ∨ p.credit2 = 0) ∧ (p.q1 = [] ∨ p.credit1 = 0) ∧ (p.q0 = [] ∨ p.credit0 = 0)

theorem Port.anyEligible_eq_false (p : Port) : p.anyEligible = false ↔ p.Spent := by
  simp [Port.anyEligible, Port.eligible2, Port.eligible1, Port.eligible0, Port.Spent, or_iff_not_imp_left, and_assoc]

/-- While a frame waits below Q3, the credits of the choice are those of a new round exactly when the present round is spent. -/
theorem Port.roundForChoice_eq {p : Port} (waits : p.q2 ≠ [] ∨ p.q1 ≠ [] ∨ p.q0 ≠ []) :
    p.roundForChoice = { p with
      credit2 := if p.Spent then 4 else p.credit2
      credit1 := if p.Spent then 2 else p.credit1
      credit0 := if p.Spent then 1 else p.credit0 } := by
  have holds : p.lowerHold = true := decide_eq_true waits
  by_cases spent : p.Spent
  · have ineligible := p.anyEligible_eq_false.2 spent
    simp [Port.roundForChoice, ineligible, holds, spent, Port.newRound]
  · have eligible := Bool.not_eq_false _ ▸ mt p.anyEligible_eq_false.1 spent
    simp [Port.roundForChoice, eligible, spent]

/-- With nothing waiting no choice is made. -/
theorem Port.arbitrate_empty {p : Port} (q3 : p.q3 = []) (q2 : p.q2 = []) (q1 : p.q1 = []) (q0 : p.q0 = []) : p.arbitrate = p := by
  simp [Port.arbitrate, q3, Port.roundForChoice, Port.lowerHold, Port.takeByCredit, Port.eligible2, Port.eligible1, Port.eligible0,
    q2, q1, q0]

end Sys2Proof.Machine

namespace Sys2Proof.Proofs
open Sys2Proof.Machine

/-- Settles O30, by the queue that the choice takes from. -/
theorem arbiterChoice : Obligations.ArbiterChoice := by
  unfold Obligations.ArbiterChoice
  intro s p q spent c2 c1 c0 chosen
  have taken : ∀ {r}, q.arbitrate = r → chosen r := fun e => congrArg (fun r => Host.Outcome.next (s.setPort p r)) e
  have stands : q.arbitrate = q → exec (.transmitArbiterChoice p) s = .next s := fun e =>
    (taken e).trans (congrArg _ (s.setPort_port p))
  refine ⟨fun h => stands (Port.arbitrate_none h), fun on free => ⟨fun f rest head => taken (Port.arbitrate_q3 on free head),
    fun q3 => ?credit⟩⟩
  have credit := Port.arbitrate_credit on free q3
  have round : q.q2 ≠ [] ∨ q.q1 ≠ [] ∨ q.q0 ≠ [] → q.roundForChoice = { q with credit2 := c2, credit1 := c1, credit0 := c0 } :=
    Port.roundForChoice_eq
  refine ⟨fun q2 q1 q0 => stands (Port.arbitrate_empty q3 q2 q1 q0), fun f rest head left => ?q2, fun a rest pass2 head left => ?q1,
    fun f rest pass2 pass1 head left => ?q0⟩
  case q2 =>
    rw [round (.inl (by simp [head]))] at credit
    exact taken (credit.trans (Port.takeByCredit_q2 head left))
  case q1 =>
    rw [round (.inr (.inl (by simp [head])))] at credit
    exact taken (credit.trans (Port.takeByCredit_q1 pass2 head left))
  case q0 =>
    rw [round (.inr (.inr (by simp [head])))] at credit
    exact taken (credit.trans (Port.takeByCredit_q0 pass2 pass1 head left))

end Sys2Proof.Proofs
end

section
/-! Offers to the queues: what a join does to a queue with room and to a full one, and a frame that is alone at its port (R142 to R147). -/

namespace Sys2Proof.Machine

/-! ## Joins (R142 to R145) -/

theorem Port.join3_room {p : Port} (room : p.q3.length < 2) (f : Frame) :
    p.join3 f = { p with q3 := p.q3 ++ [f], counts := { p.counts with joined3 := bump p.counts.joined3 } } := by
  have notFull : ¬ depthOf .q3 ≤ p.q3.length := Nat.not_le.2 room
  simp [Port.join3, notFull]

theorem Port.join3_full {p : Port} (full : 2 ≤ p.q3.length) (f : Frame) :
    p.join3 f = { p with
      q3 := p.q3.tail ++ [f]
      counts := { p.counts with joined3 := bump p.counts.joined3, overflow3 := bump p.counts.overflow3 } } := by
  have full : depthOf .q3 ≤ p.q3.length := full
  simp [Port.join3, full]

theorem Port.join2_room {p : Port} (room : p.q2.length < 4) (f : Frame) :
    p.join2 f = { p with q2 := p.q2 ++ [f], counts := { p.counts with joined2 := bump p.counts.joined2 } } := by
  have notFull : ¬ depthOf .q2 ≤ p.q2.length := Nat.not_le.2 room
  simp [Port.join2, notFull]

theorem Port.join2_full {p : Port} (full : 4 ≤ p.q2.length) (f : Frame) :
    p.join2 f = { p with
      q2 := p.q2.tail ++ [f]
      counts := { p.counts with joined2 := bump p.counts.joined2, overflow2 := bump p.counts.overflow2 } } := by
  have full : depthOf .q2 ≤ p.q2.length := full
  simp [Port.join2, full]

theorem Port.join0_room {p : Port} (room : p.q0.length < 16) (f : Frame) :
    p.join0 f = { p with q0 := p.q0 ++ [f], counts := { p.counts with joined0 := bump p.counts.joined0 } } :=
  if_pos room

theorem Port.join0_full {p : Port} (full : 16 ≤ p.q0.length) (f : Frame) :
    p.join0 f = { p with counts := { p.counts with overflow0 := bump p.counts.overflow0 } } :=
  if_neg (Nat.not_lt.2 full)

/-- The first alert frame of its level joins the tail of Q1 (R142). -/
theorem Port.join1_new {p : Port} {l : Level} (new : ∀ a ∈ p.q1, a.level ≠ l) (f : Frame) :
    p.join1 l f = { p with q1 := p.q1 ++ [⟨l, f⟩], counts := { p.counts with joined1 := bump p.counts.joined1 } } := by
  have notHeld : p.q1.any (fun a => decide (a.level = l)) = false := by simpa using new
  simp [Port.join1, notHeld]

/-- A waiting alert frame of the level is replaced where it stands (R144). -/
theorem Port.join1_held {p : Port} {before after : List LevelFrame} {a : LevelFrame} (queue : p.q1 = before ++ a :: after)
    (only : ∀ b ∈ before ++ after, b.level ≠ a.level) (f : Frame) :
    p.join1 a.level f = { p with
      q1 := before ++ ⟨a.level, f⟩ :: after
      counts := { p.counts with joined1 := bump p.counts.joined1, overflow1 := bump p.counts.overflow1 } } := by
  have held : p.q1.any (fun b => decide (b.level = a.level)) = true := by simp [queue]
  have others : ∀ bs : List LevelFrame, (∀ b ∈ bs, b.level ≠ a.level) →
      bs.map (fun b => if b.level = a.level then ⟨a.level, f⟩ else b) = bs := fun bs other =>
    (List.map_congr_left fun b m => if_neg (other b m)).trans bs.map_id
  obtain ⟨beforeOther, afterOther⟩ := List.forall_mem_append.1 only
  simp only [Port.join1, held, if_true, bumpIf_true]
  simp only [queue, List.map_append, List.map_cons, if_true, others before beforeOther, others after afterOther]

/-! ## Offers -/

theorem Port.offer_off {p : Port} (off : p.mode = .off) (k : PlainQueue) (f : Frame) : p.offer k f = p.discardOffer := if_pos off

theorem Port.offerAlert_off {p : Port} (off : p.mode = .off) (l : Level) (f : Frame) : p.offerAlert l f = p.discardOffer := if_pos off

section

variable {p : Port} (on : p.mode ≠ .off)
include on

theorem Port.offer_q3 (f : Frame) : p.offer .q3 f = (p.join3 f).arbitrate := if_neg on
theorem Port.offer_q2 (f : Frame) : p.offer .q2 f = (p.join2 f).arbitrate := if_neg on
theorem Port.offer_q0 (f : Frame) : p.offer .q0 f = (p.join0 f).arbitrate := if_neg on
theorem Port.offerAlert_on (l : Level) (f : Frame) : p.offerAlert l f = (p.join1 l f).arbitrate := if_neg on

end

/-! ## A frame alone at its port (R147) -/

section

variable {p : Port} (on : p.mode ≠ .off) (free : p.slot = none)
include on free

theorem Port.arbitrate_alone_q3 {f : Frame} (q3 : p.q3 = [f]) : p.arbitrate.slot = some ⟨f, .q3, 0⟩ := by
  rw [Port.arbitrate_q3 on free q3]

theorem Port.arbitrate_alone_q2 {f : Frame} (q3 : p.q3 = []) (q2 : p.q2 = [f]) (q1 : p.q1 = []) (q0 : p.q0 = []) :
    p.arbitrate.slot = some ⟨f, .q2, 0⟩ := by
  have credit : 0 < if p.Spent then 4 else p.credit2 := by
    split
    · decide
    · rename_i left
      exact Nat.pos_of_ne_zero fun zero => left ⟨.inr zero, .inl q1, .inl q0⟩
  rw [Port.arbitrate_credit on free q3, Port.roundForChoice_eq (.inl (by simp [q2])),
    Port.takeByCredit_q2 (f := f) (rest := [])]
  exacts [q2, credit]

theorem Port.arbitrate_alone_q1 {a : LevelFrame} (q3 : p.q3 = []) (q2 : p.q2 = []) (q1 : p.q1 = [a]) (q0 : p.q0 = []) :
    p.arbitrate.slot = some ⟨a.frame, .q1, 0⟩ := by
  have credit : 0 < if p.Spent then 2 else p.credit1 := by
    split
    · decide
    · rename_i left
      exact Nat.pos_of_ne_zero fun zero => left ⟨.inl q2, .inr zero, .inl q0⟩
  rw [Port.arbitrate_credit on free q3, Port.roundForChoice_eq (.inr (.inl (by simp [q1]))),
    Port.takeByCredit_q1 (a := a) (rest := [])]
  exacts [.inl q2, q1, credit]

theorem Port.arbitrate_alone_q0 {f : Frame} (q3 : p.q3 = []) (q2 : p.q2 = []) (q1 : p.q1 = []) (q0 : p.q0 = [f]) :
    p.arbitrate.slot = some ⟨f, .q0, 0⟩ := by
  have credit : 0 < if p.Spent then 1 else p.credit0 := by
    split
    · decide
    · rename_i left
      exact Nat.pos_of_ne_zero fun zero => left ⟨.inl q2, .inl q1, .inr zero⟩
  rw [Port.arbitrate_credit on free q3, Port.roundForChoice_eq (.inr (.inr (by simp [q0]))),
    Port.takeByCredit_q0 (f := f) (rest := [])]
  exacts [.inl q2, .inl q1, q0, credit]

end

end Sys2Proof.Machine

namespace Sys2Proof.Proofs
open Sys2Proof.Machine

/-- Settles O31: an offer is a join and then the choice, which does nothing while the slot is taken and takes a frame that is alone. -/
theorem offersToQueues : Obligations.OffersToQueues := by
  unfold Obligations.OffersToQueues
  refine fun q f l => ⟨fun off => ⟨fun k => Port.offer_off off k f, Port.offerAlert_off off l f⟩, fun on taken => ?joins,
    fun on free q3 q2 q1 q0 => ⟨?slot3, ?slot2, ?slot0, ?slot1⟩⟩
  case joins =>
    have busy : ∀ {r j : Port}, j = r → r.slot = q.slot → j.arbitrate = r := by
      rintro r _ rfl same
      exact Port.arbitrate_none (.inr (same ▸ taken))
    simp only [Port.offer_q3 on, Port.offer_q2 on, Port.offer_q0 on, Port.offerAlert_on on]
    refine ⟨fun room => busy (Port.join3_room room f) rfl, fun full => busy (Port.join3_full full f) rfl,
      fun room => busy (Port.join2_room room f) rfl, fun full => busy (Port.join2_full full f) rfl,
      fun room => busy (Port.join0_room room f) rfl, fun full => busy (Port.join0_full full f) rfl,
      fun new => busy (Port.join1_new new f) rfl, ?_⟩
    rintro before a after queue rfl only
    exact busy (Port.join1_held queue only f) rfl
  case slot3 =>
    rw [Port.offer_q3 on, Port.join3_room (by simp [q3])]
    apply Port.arbitrate_alone_q3 <;> simp [on, free, q3]
  case slot2 =>
    rw [Port.offer_q2 on, Port.join2_room (by simp [q2])]
    apply Port.arbitrate_alone_q2 <;> simp [on, free, q3, q2, q1, q0]
  case slot0 =>
    rw [Port.offer_q0 on, Port.join0_room (by simp [q0])]
    apply Port.arbitrate_alone_q0 <;> simp [on, free, q3, q2, q1, q0]
  case slot1 =>
    rw [Port.offerAlert_on on, Port.join1_new (by simp [q1])]
    apply Port.arbitrate_alone_q1 (a := ⟨l, f⟩) <;> simp [on, free, q3, q2, q1, q0]

end Sys2Proof.Proofs
end

section
/-! The two ends of an attempt, branch by branch (R149 to R153, R155). -/

namespace Sys2Proof.Machine

/-! ## The frame whose attempt ends -/

theorem Port.attempting_some {p : Port} {f : SlotFrame} (on : p.mode ≠ .off) (slot : p.slot = some f) : p.attempting = some f :=
  (if_neg on).trans slot

theorem Port.attempting_none {p : Port} (h : p.mode = .off ∨ p.slot = none) : p.attempting = none := by
  unfold Port.attempting
  split
  · rfl
  · rename_i on
    exact h.resolve_left on

section

variable {s : State} {p : PortId}

theorem exec_transmitSuccess {f : SlotFrame} (attempting : (s.port p).attempting = some f) :
    exec (.transmitSuccess p) s = .next (s.transmitSuccess p) := by
  simp [exec, execTransmitSuccess, attempting]

theorem exec_transmitFailure {f : SlotFrame} (attempting : (s.port p).attempting = some f) :
    exec (.transmitFailure p) s = .next (s.transmitFailure p f) := by
  simp [exec, execTransmitFailure, attempting]

/-- With no frame being sent no attempt ends (log 6). -/
theorem exec_attempt_idle (idle : (s.port p).attempting = none) :
    exec (.transmitSuccess p) s = .next s ∧ exec (.transmitFailure p) s = .next s := by
  simp [exec, execTransmitSuccess, execTransmitFailure, idle]

/-! ## A success (R150, R155) -/

theorem State.transmitSuccess_quiet (short : (s.port p).giveUpStreak < 3) :
    s.transmitSuccess p = (s.setPort p (s.port p).succeed).arbitrate p := by
  simp [State.transmitSuccess, Nat.not_le.2 short]

theorem State.transmitSuccess_told (long : 3 ≤ (s.port p).giveUpStreak) :
    s.transmitSuccess p = ((s.setPort p (s.port p).succeed).handOff (.absent (portClass p))).arbitrate p := by
  simp [State.transmitSuccess, long, State.portAbsent]

/-! ## A failure (R151, R153, R155) -/

/-- The port hands its condition with the error count as the event leaves it (log 23). -/
theorem State.portPresent_setPort (s : State) (p : PortId) (x : Port) :
    (s.setPort p x).portPresent p =
      (s.setPort p x).handOff (.present (portClass p) (.port p) (BitVec.ofNat 16 x.errorCount)) := by
  rw [State.portPresent, State.port_setPort_same]

/-- An entry into OFF flushes the frame that was being sent with the waiting ones (R153). -/
theorem Port.enterOff_sending {p : Port} {f : SlotFrame} (slot : p.slot = some f) (now : Stamp) :
    p.enterOff now = { p with
      mode := .off, errorCount := 255, slot := none, q3 := [], q2 := [], q1 := [], q0 := [], recoveryTimer := some now
      counts := { p.counts with
        flushed := min (p.counts.flushed + (1 + p.q3.length + p.q2.length + p.q1.length + p.q0.length)) 65535
        offEntries := bump p.counts.offEntries } } := by
  simp [Port.enterOff, Port.heldFrames, slot, bumpBy, counterMax]

theorem State.transmitFailure_off (high : 248 ≤ (s.port p).errorCount) (f : SlotFrame) :
    s.transmitFailure p f =
      (s.setPort p ((s.port p).countFailure.enterOff s.now)).handOff (.present (portClass p) (.port p) 255) := by
  have off : 248 ≤ (s.port p).countFailure.errorCount := high
  simp only [State.transmitFailure, off, if_true, State.portPresent_setPort]
  rfl

theorem State.transmitFailure_again (low : (s.port p).errorCount < 248) {f : SlotFrame} (more : f.failed + 1 < 8) :
    s.transmitFailure p f =
      s.setPort p { (s.port p).countFailure.raiseError with slot := some { f with failed := f.failed + 1 } } := by
  have on : ¬ 248 ≤ (s.port p).countFailure.errorCount := Nat.not_le.2 low
  have more : f.failed + 1 < attemptLimit := more
  simp [State.transmitFailure, on, more]

/-- A give-up streak becomes 3 from 2 alone. -/
theorem bump_eq_three (n : Nat) : bump n = 3 ↔ n = 2 := by
  simp only [bump, counterMax]
  omega

/-- The port of a frame given up, before the arbiter's choice. -/
def Port.dropped (p : Port) : Port := p.countFailure.raiseError.giveUp

/-- At the eighth failed attempt the frame is given up, and the streak's third is told before the choice (R151, R155). -/
theorem State.transmitFailure_givenUp (low : (s.port p).errorCount < 248) {f : SlotFrame} (last : 8 ≤ f.failed + 1) :
    s.transmitFailure p f = (if (s.port p).giveUpStreak = 2 then
      (s.setPort p (s.port p).dropped).handOff (.present (portClass p) (.port p) (BitVec.ofNat 16 ((s.port p).errorCount + 8)))
      else s.setPort p (s.port p).dropped).arbitrate p := by
  have on : ¬ 248 ≤ (s.port p).countFailure.errorCount := Nat.not_le.2 low
  have last : ¬ f.failed + 1 < attemptLimit := Nat.not_lt.2 last
  have third : (s.port p).dropped.giveUpStreak = 3 ↔ (s.port p).giveUpStreak = 2 := bump_eq_three _
  simp only [State.transmitFailure, on, last, if_false, State.giveUpFrame, State.port_setPort_same, State.setPort_setPort,
    State.portPresent_setPort]
  simp only [← third]
  rfl

end

end Sys2Proof.Machine

namespace Sys2Proof.Proofs
open Sys2Proof.Machine

/-- Settles O32, by the branch that the attempt's end takes. -/
theorem attemptEnds : Obligations.AttemptEnds := by
  unfold Obligations.AttemptEnds
  refine ⟨fun s p => ?success, fun s p => ?failure⟩
  case success =>
    intro q sent cls
    have cls_eq : cls = portClass p := by cases p <;> rfl
    rw [cls_eq]
    refine ⟨fun f on slot => ?_, fun idle => (exec_attempt_idle (Port.attempting_none idle)).1⟩
    have ends := exec_transmitSuccess (Port.attempting_some on slot)
    exact ⟨fun short => ends.trans (congrArg _ (State.transmitSuccess_quiet short)),
      fun long => ends.trans (congrArg _ (State.transmitSuccess_told long))⟩
  case failure =>
    intro q cls mode
    have cls_eq : cls = portClass p := by cases p <;> rfl
    rw [cls_eq]
    refine ⟨fun f on slot => ?_, fun idle => (exec_attempt_idle (Port.attempting_none idle)).2⟩
    have ends := exec_transmitFailure (Port.attempting_some on slot)
    refine ⟨fun high => ?off, fun low more => ?again, fun low last => ?givenUp⟩
    case off =>
      rw [ends, State.transmitFailure_off high, Port.enterOff_sending (p := (s.port p).countFailure) slot]
      rfl
    case again => exact ends.trans (congrArg _ (State.transmitFailure_again low more))
    case givenUp =>
      have given := ends.trans (congrArg _ (State.transmitFailure_givenUp low last))
      exact ⟨fun other => by rw [given, if_neg other]; rfl, fun third => by rw [given, if_pos third]; rfl⟩

end Sys2Proof.Proofs
end

section
/-! The shown mask and the alert levels under a queued frame, a removal and a release (R159, R160, R162, R168). -/

namespace Sys2Proof.Machine

/-! ## The shown mask (R159) -/

theorem mem_allClasses (c : FaultClass) : c ∈ allClasses := by cases c <;> decide

theorem mem_shownMask {map : List AlertSetting} {u : FaultUnit} {l : Level} {c : FaultClass} :
    c ∈ shownMask map u l ↔
      (u.record c).asserted ∧ (settingOf map c).masked = false ∧ (settingOf map c).level = l := by
  simp [shownMask, mem_allClasses, and_assoc]

/-- The mask of a level is fixed by the asserted marks of the unmasked classes mapped to it. -/
theorem shownMask_congr {map : List AlertSetting} {u v : FaultUnit} {l : Level}
    (same : ∀ c, (settingOf map c).masked = false → (settingOf map c).level = l →
      (v.record c).asserted = (u.record c).asserted) : shownMask map v l = shownMask map u l := by
  refine List.filter_congr fun c _ => ?_
  cases masked : (settingOf map c).masked with
  | true => simp
  | false =>
    by_cases level : (settingOf map c).level = l
    · rw [same c masked level]
    · simp [level]

@[simp] theorem shownMask_modifyLevel (map : List AlertSetting) (u : FaultUnit) (k l : Level) (f : LevelRecord → LevelRecord) :
    shownMask map (u.modifyLevel k f) l = shownMask map u l := rfl

/-- A class cleared leaves the mask of a level that does not show it. -/
theorem shownMask_cleared {map : List AlertSetting} {u : FaultUnit} {c : FaultClass} {l : Level} (classes : u.classes.length = 12)
    (hidden : c ∉ shownMask map u l) : shownMask map (u.setAsserted c false) l = shownMask map u l := by
  refine shownMask_congr fun d masked level => ?_
  by_cases cleared : d = c
  · subst cleared
    have released : (u.record d).asserted = false := by
      by_contra asserted
      exact hidden (mem_shownMask.2 ⟨by simpa using asserted, masked, level⟩)
    rw [FaultUnit.setAsserted, FaultUnit.record_modifyRecord_same _ _ _ classes, released]
  · rw [FaultUnit.setAsserted, FaultUnit.record_modifyRecord_ne _ _ cleared]

/-! ## The classes that a frame carries (R162) -/

/-- The release of carried classes reaches the class records alone. -/
theorem FaultUnit.releaseCarried_frame (u : FaultUnit) (map : List AlertSetting) (carried : List FaultClass) :
    u.releaseCarried map carried = { u with classes := (u.releaseCarried map carried).classes } := by
  unfold FaultUnit.releaseCarried
  induction carried.filter (isFollowEvent map) generalizing u with
  | nil => rfl
  | cons c cs ih => exact ih (u.setAsserted c false)

@[simp] theorem FaultUnit.releaseCarried_levels (u : FaultUnit) (map : List AlertSetting) (carried : List FaultClass) :
    (u.releaseCarried map carried).levels = u.levels := by rw [FaultUnit.releaseCarried_frame]
@[simp] theorem FaultUnit.releaseCarried_capture (u : FaultUnit) (map : List AlertSetting) (carried : List FaultClass) :
    (u.releaseCarried map carried).capture = u.capture := by rw [FaultUnit.releaseCarried_frame]
@[simp] theorem FaultUnit.releaseCarried_level (u : FaultUnit) (map : List AlertSetting) (carried : List FaultClass) (l : Level) :
    (u.releaseCarried map carried).level l = u.level l := by rw [FaultUnit.releaseCarried_frame]; rfl

/-- A class that is not carried keeps its record. -/
theorem FaultUnit.record_releaseCarried (u : FaultUnit) (map : List AlertSetting) {carried : List FaultClass} {c : FaultClass}
    (other : c ∉ carried) : (u.releaseCarried map carried).record c = u.record c := by
  have other : c ∉ carried.filter (isFollowEvent map) := fun m => other (List.mem_of_mem_filter m)
  unfold FaultUnit.releaseCarried
  generalize carried.filter (isFollowEvent map) = released at other ⊢
  induction released generalizing u with
  | nil => rfl
  | cons d ds ih =>
    obtain ⟨ne, other⟩ := not_or.1 (mt List.mem_cons.2 other)
    exact (ih (u.setAsserted d false) other).trans (u.record_modifyRecord_ne _ ne)

/-! ## A queued frame (R168) -/

section

variable (env : FaultEnv) (l : Level) (x : FaultSide)

/-- The frame carries the shown mask as it stands. -/
theorem FaultSide.emit_port :
    (x.emit env l).port = x.port.offerAlert l (alertFrame env.vectorBase l (shownMask env.map x.unit l)) := rfl

/-- With nothing shown a frame is queued and counted, and nothing is released. -/
theorem FaultSide.emit_unit_empty (empty : shownMask env.map x.unit l = []) :
    (x.emit env l).unit = x.unit.modifyLevel l (fun r => { r with frames := bump r.frames }) := by
  simp [FaultSide.emit, empty, FaultUnit.releaseCarried]

theorem FaultSide.emit_capture : (x.emit env l).unit.capture = x.unit.capture := by
  unfold FaultSide.emit
  simp only
  split <;> simp

theorem FaultSide.emit_levels_length : (x.emit env l).unit.levels.length = x.unit.levels.length := by
  unfold FaultSide.emit
  simp only
  split <;> simp

variable {l x}

/-- The frame is counted, and the level's repeat timer runs on. -/
theorem FaultSide.emit_level_same (levels : x.unit.levels.length = 4) :
    ((x.emit env l).unit.level l).frames = bump (x.unit.level l).frames ∧
    ((x.emit env l).unit.level l).repeatTimer = (x.unit.level l).repeatTimer := by
  unfold FaultSide.emit
  simp only
  split
  · rw [FaultUnit.level_modifyLevel_same _ _ _ (by simpa using levels)]
    simp [FaultUnit.level_modifyLevel_same _ _ _ levels]
  · simp [FaultUnit.level_modifyLevel_same _ _ _ levels]

theorem FaultSide.emit_level_ne {k : Level} (other : k ≠ l) : (x.emit env l).unit.level k = x.unit.level k := by
  unfold FaultSide.emit
  simp only
  split
  · rw [FaultUnit.level_modifyLevel_ne _ _ other]
    simp [FaultUnit.level_modifyLevel_ne _ _ other]
  · simp [FaultUnit.level_modifyLevel_ne _ _ other]

/-- The release of what a level's frame carries leaves the masks of the other levels. -/
theorem FaultSide.shownMask_emit_ne {k : Level} (other : k ≠ l) :
    shownMask env.map (x.emit env l).unit k = shownMask env.map x.unit k := by
  have released : shownMask env.map ((x.unit.modifyLevel l (fun r => { r with frames := bump r.frames })).releaseCarried env.map
      (shownMask env.map x.unit l)) k = shownMask env.map x.unit k := by
    refine shownMask_congr fun c _ level => ?_
    rw [FaultUnit.record_releaseCarried]
    · rfl
    · intro carried
      exact other (level.symm.trans (mem_shownMask.1 carried).2.2)
  unfold FaultSide.emit
  simp only
  split
  · exact released
  · exact released

end

/-! ## What a level's phase says of it, kept by a release (R160, R168) -/

theorem LevelSound.congr {map : List AlertSetting} {u v : FaultUnit} {l : Level} (sound : LevelSound map u l)
    (level : v.level l = u.level l) (shown : shownMask map v l = shownMask map u l) : LevelSound map v l := by
  unfold LevelSound
  rw [level, shown]
  exact sound

/-- A level that shows a class is ACTIVE. -/
theorem LevelSound.active {map : List AlertSetting} {u : FaultUnit} {l : Level} (sound : LevelSound map u l)
    (shows : shownMask map u l ≠ []) : (u.level l).phase = .active ∧ (u.level l).repeatTimer ≠ none := by
  unfold LevelSound at sound
  split at sound
  · exact absurd sound.1 shows
  · exact ⟨‹_›, sound.2⟩
  · exact absurd sound.1 shows

/-- A level that is not ACTIVE shows nothing. -/
theorem LevelSound.empty {map : List AlertSetting} {u : FaultUnit} {l : Level} (sound : LevelSound map u l)
    (phase : (u.level l).phase ≠ .active) : shownMask map u l = [] := by
  by_contra shows
  exact phase (sound.active shows).1

theorem FaultSide.levelRemove_levels_length (env : FaultEnv) (l : Level) (x : FaultSide) :
    (x.levelRemove env l).unit.levels.length = x.unit.levels.length := by
  unfold FaultSide.levelRemove
  split
  · simp [FaultSide.emit_levels_length]
  · rfl

theorem FaultSide.release_levels_length (env : FaultEnv) (c : FaultClass) (x : FaultSide) :
    (x.release env c).unit.levels.length = x.unit.levels.length := by
  unfold FaultSide.release
  simp only
  split
  · exact FaultSide.levelRemove_levels_length _ _ _
  · rfl

/-- An ACTIVE level, whatever its mask has become, is sound once its removal has been treated; the other levels stay so (R168). -/
theorem FaultSide.levelRemove_levelSound {env : FaultEnv} {l : Level} {x : FaultSide} (levels : x.unit.levels.length = 4)
    (active : (x.unit.level l).phase = .active) (runs : (x.unit.level l).repeatTimer ≠ none)
    (others : ∀ k, k ≠ l → LevelSound env.map x.unit k) (k : Level) : LevelSound env.map (x.levelRemove env l).unit k := by
  unfold FaultSide.levelRemove
  split
  · rename_i emptied
    by_cases same : k = l
    · subst same
      rw [FaultSide.emit_unit_empty]
      · unfold LevelSound
        rw [FaultUnit.level_modifyLevel_same _ _ _ (by simpa using levels), FaultUnit.level_modifyLevel_same _ _ _ levels]
        exact ⟨emptied.2, rfl⟩
      · exact emptied.2
    · refine (others k same).congr ?_ (FaultSide.shownMask_emit_ne env same)
      rw [FaultSide.emit_level_ne env same]
      exact FaultUnit.level_modifyLevel_ne _ _ same
  · rename_i shows
    by_cases same : k = l
    · subst same
      unfold LevelSound
      rw [active]
      exact ⟨fun empty => shows ⟨active, empty⟩, runs⟩
    · exact others k same

/-- A release keeps every level sound (R160). -/
theorem FaultSide.release_levelSound {env : FaultEnv} (c : FaultClass) {x : FaultSide} (classes : x.unit.classes.length = 12)
    (levels : x.unit.levels.length = 4) (sound : ∀ l, LevelSound env.map x.unit l) (l : Level) :
    LevelSound env.map (x.release env c).unit l := by
  have hidden : ∀ k, c ∉ shownMask env.map x.unit k → LevelSound env.map (x.unit.setAsserted c false) k := fun k h =>
    (sound k).congr rfl (shownMask_cleared classes h)
  unfold FaultSide.release
  simp only
  split
  · rename_i shown
    have shows : c ∈ shownMask env.map x.unit (settingOf env.map c).level := mem_shownMask.2 ⟨shown.1, shown.2, rfl⟩
    obtain ⟨active, runs⟩ := (sound _).active (List.ne_nil_of_mem shows)
    exact FaultSide.levelRemove_levelSound (x := { x with unit := x.unit.setAsserted c false }) levels active runs
      (fun k other => hidden k fun h => other (mem_shownMask.1 h).2.2.symm) l
  · rename_i unshown
    exact hidden l fun h => unshown ⟨(mem_shownMask.1 h).1, (mem_shownMask.1 h).2.1⟩

/-- A condition's absence, handed over, keeps every level sound (R158, R161). -/
theorem FaultSide.absent_levelSound {env : FaultEnv} (c : FaultClass) {x : FaultSide} (classes : x.unit.classes.length = 12)
    (levels : x.unit.levels.length = 4) (sound : ∀ l, LevelSound env.map x.unit l) :
    (x.takeHandOff env (.absent c)).unit.levels.length = 4 ∧ ∀ l, LevelSound env.map (x.takeHandOff env (.absent c)).unit l := by
  have asserted : ∀ d, ((x.unit.modifyRecord c (fun r => { r with cause := false })).record d).asserted = (x.unit.record d).asserted := by
    intro d
    by_cases same : d = c
    · rw [same, FaultUnit.record_modifyRecord_same _ _ _ classes]
    · rw [FaultUnit.record_modifyRecord_ne _ _ same]
  have cleared : ∀ l, LevelSound env.map (x.unit.modifyRecord c (fun r => { r with cause := false })) l := fun l =>
    (sound l).congr rfl (shownMask_congr fun d _ _ => asserted d)
  unfold FaultSide.takeHandOff
  simp only
  split
  · split
    · exact ⟨(FaultSide.release_levels_length env c _).trans levels,
        FaultSide.release_levelSound c ((x.unit.modifyRecord_length c _).trans classes) levels cleared⟩
    · exact ⟨levels, cleared⟩
  · exact ⟨levels, sound⟩

end Sys2Proof.Machine
end

section
/-! Recovery: the port returns to service, and Port A with one alert frame for each level (R154, R172). -/

namespace Sys2Proof.Machine

/-! ## One level's frame at a recovery (R172) -/

/-- A level's record as its frame at a recovery is queued: an ACTIVE level's timer restarts, a CLOSING level becomes IDLE. -/
def LevelRecord.resynced (now : Stamp) (r : LevelRecord) : LevelRecord :=
  match r.phase with
  | .active => { r with repeatTimer := some now }
  | .closing => { r with phase := .idle, repeatTimer := none }
  | .idle => r

@[simp] theorem LevelRecord.resynced_frames (now : Stamp) (r : LevelRecord) : (r.resynced now).frames = r.frames := by
  unfold LevelRecord.resynced
  split <;> rfl

theorem LevelRecord.resynced_active {now : Stamp} {r : LevelRecord} (active : r.phase = .active) :
    r.resynced now = { r with repeatTimer := some now } := by simp [LevelRecord.resynced, active]

theorem LevelRecord.resynced_closing {now : Stamp} {r : LevelRecord} (closing : r.phase = .closing) :
    r.resynced now = { r with phase := .idle, repeatTimer := none } := by simp [LevelRecord.resynced, closing]

theorem LevelRecord.resynced_idle {now : Stamp} {r : LevelRecord} (idle : r.phase = .idle) : r.resynced now = r := by
  simp [LevelRecord.resynced, idle]

/-- Two updates of a level that agree on its record are one. -/
theorem FaultUnit.modifyLevel_congr {u : FaultUnit} {l : Level} {f g : LevelRecord → LevelRecord} (levels : u.levels.length = 4)
    (same : f (u.level l) = g (u.level l)) : u.modifyLevel l f = u.modifyLevel l g := by
  have listed : l.val < u.levels.length := by rw [levels]; exact l.isLt
  have level : u.level l = u.levels.get ⟨l.val, listed⟩ := by
    simp [FaultUnit.level, List.getD_eq_getElem?_getD, List.getElem?_eq_getElem listed]
  rw [level] at same
  simp only [FaultUnit.modifyLevel, List.modify_eq_set_get _ listed, same]

theorem FaultSide.resyncLevel_eq (env : FaultEnv) {x : FaultSide} (levels : x.unit.levels.length = 4) (l : Level) :
    x.resyncLevel env l = FaultSide.emit env l { x with unit := x.unit.modifyLevel l (LevelRecord.resynced env.now) } := by
  have update : ∀ f, f (x.unit.level l) = (x.unit.level l).resynced env.now →
      x.unit.modifyLevel l f = x.unit.modifyLevel l (LevelRecord.resynced env.now) := fun f => FaultUnit.modifyLevel_congr levels
  unfold FaultSide.resyncLevel
  split
  · rename_i active
    rw [update _ (LevelRecord.resynced_active active).symm]
  · rename_i closing
    rw [update _ (LevelRecord.resynced_closing closing).symm]
  · rename_i idle
    have same : x.unit.modifyLevel l id = x.unit := by simp [FaultUnit.modifyLevel, List.modify_id]
    rw [← update id (LevelRecord.resynced_idle idle).symm, same]

/-- A level's record after its frame at a recovery: counted, IDLE unless it was ACTIVE, and the timer of an ACTIVE one restarted. -/
structure LevelResynced (now : Stamp) (before after : LevelRecord) : Prop where
  frames : after.frames = bump before.frames
  idle : before.phase = .idle → after.phase = .idle ∧ after.repeatTimer = none
  closing : before.phase = .closing → after.phase = .idle ∧ after.repeatTimer = none
  active : before.phase = .active → after.repeatTimer = some now

/-- A sound level's frame at a recovery. A level that is not ACTIVE shows nothing, so its frame releases nothing. -/
theorem FaultSide.resyncLevel_level {env : FaultEnv} {x : FaultSide} {l : Level} (levels : x.unit.levels.length = 4)
    (sound : LevelSound env.map x.unit l) :
    LevelResynced env.now (x.unit.level l) ((x.resyncLevel env l).unit.level l) := by
  have levels' : ∀ f, (x.unit.modifyLevel l f).levels.length = 4 := fun f => (x.unit.modifyLevel_length l f).trans levels
  have start : ∀ f, (x.unit.modifyLevel l f).level l = f (x.unit.level l) := fun f => x.unit.level_modifyLevel_same l f levels
  obtain ⟨frames, timer⟩ := FaultSide.emit_level_same env (l := l)
    (x := { x with unit := x.unit.modifyLevel l (LevelRecord.resynced env.now) }) (levels' _)
  have silent : (x.unit.level l).phase ≠ .active →
      ((x.resyncLevel env l).unit.level l).phase = ((x.unit.level l).resynced env.now).phase := fun inactive => by
    rw [FaultSide.resyncLevel_eq env levels, FaultSide.emit_unit_empty]
    · rw [FaultUnit.level_modifyLevel_same _ _ _ (levels' _), start]
    · exact sound.empty inactive
  rw [start] at frames timer
  rw [← FaultSide.resyncLevel_eq env levels] at frames timer
  refine ⟨by simpa using frames, fun idle => ?_, fun closing => ?_, fun active => ?_⟩
  · have stopped : (x.unit.level l).repeatTimer = none := by
      unfold LevelSound at sound
      rw [idle] at sound
      exact sound.2
    rw [LevelRecord.resynced_idle idle] at timer silent
    exact ⟨(silent (by simp [idle])).trans idle, timer.trans stopped⟩
  · rw [LevelRecord.resynced_closing closing] at timer silent
    exact ⟨silent (by simp [closing]), timer⟩
  · rw [LevelRecord.resynced_active active] at timer
    exact timer

section

variable (env : FaultEnv) {x : FaultSide} (levels : x.unit.levels.length = 4) (l : Level)
include levels

theorem FaultSide.resyncLevel_port :
    (x.resyncLevel env l).port = x.port.offerAlert l (alertFrame env.vectorBase l (shownMask env.map x.unit l)) := by
  rw [FaultSide.resyncLevel_eq env levels]
  rfl

theorem FaultSide.resyncLevel_capture : (x.resyncLevel env l).unit.capture = x.unit.capture := by
  rw [FaultSide.resyncLevel_eq env levels, FaultSide.emit_capture]
  rfl

theorem FaultSide.resyncLevel_levels_length : (x.resyncLevel env l).unit.levels.length = 4 := by
  rw [FaultSide.resyncLevel_eq env levels, FaultSide.emit_levels_length]
  exact (x.unit.modifyLevel_length l _).trans levels

variable {l} {k : Level} (other : k ≠ l)
include other

theorem FaultSide.resyncLevel_level_ne : (x.resyncLevel env l).unit.level k = x.unit.level k := by
  rw [FaultSide.resyncLevel_eq env levels, FaultSide.emit_level_ne env other]
  exact x.unit.level_modifyLevel_ne _ other

theorem FaultSide.resyncLevel_shownMask_ne :
    shownMask env.map (x.resyncLevel env l).unit k = shownMask env.map x.unit k := by
  rw [FaultSide.resyncLevel_eq env levels, FaultSide.shownMask_emit_ne env other]
  rfl

end

/-! ## The frames of several levels -/

/-- Levels resynchronised one after another, none twice: each queues the mask it showed at the start, and the others stand. -/
theorem FaultSide.resyncLevels (env : FaultEnv) (shown : Level → List FaultClass) (ls : List Level) (apart : ls.Nodup)
    {x : FaultSide} (levels : x.unit.levels.length = 4) (sound : ∀ l ∈ ls, LevelSound env.map x.unit l)
    (shows : ∀ l ∈ ls, shownMask env.map x.unit l = shown l) :
    (ls.foldl (fun y l => y.resyncLevel env l) x).port =
      ls.foldl (fun p l => p.offerAlert l (alertFrame env.vectorBase l (shown l))) x.port ∧
    (ls.foldl (fun y l => y.resyncLevel env l) x).unit.capture = x.unit.capture ∧
    (∀ l ∈ ls, LevelResynced env.now (x.unit.level l) ((ls.foldl (fun y l => y.resyncLevel env l) x).unit.level l)) ∧
    ∀ l, l ∉ ls → (ls.foldl (fun y l => y.resyncLevel env l) x).unit.level l = x.unit.level l := by
  induction ls generalizing x with
  | nil => exact ⟨rfl, rfl, nofun, fun _ _ => rfl⟩
  | cons l ls ih =>
    obtain ⟨new, apart⟩ := List.nodup_cons.1 apart
    have ne : ∀ k ∈ ls, k ≠ l := fun k m e => new (e ▸ m)
    have level := fun k m => FaultSide.resyncLevel_level_ne env levels (ne k m)
    have mask := fun k m => FaultSide.resyncLevel_shownMask_ne env levels (ne k m)
    obtain ⟨port, capture, done, others⟩ := ih apart (FaultSide.resyncLevel_levels_length env levels l)
      (fun k m => (sound k (List.mem_cons_of_mem _ m)).congr (level k m) (mask k m))
      (fun k m => (mask k m).trans (shows k (List.mem_cons_of_mem _ m)))
    simp only [List.foldl_cons]
    refine ⟨?_, ?_, ?_, ?_⟩
    · rw [port, FaultSide.resyncLevel_port env levels, shows l List.mem_cons_self]
    · rw [capture, FaultSide.resyncLevel_capture env levels]
    · intro k m
      rcases List.mem_cons.1 m with rfl | m
      · rw [others k new]
        exact FaultSide.resyncLevel_level levels (sound k List.mem_cons_self)
      · rw [← level k m]
        exact done k m
    · intro k absent
      obtain ⟨other, absent⟩ := not_or.1 (mt List.mem_cons.2 absent)
      rw [others k absent, FaultSide.resyncLevel_level_ne env levels other]

/-- The resynchronisation: one frame for each level, 3 down to 0, each of the mask as it stood before the first (R172). -/
theorem FaultSide.resync_frames (env : FaultEnv) {x : FaultSide} (levels : x.unit.levels.length = 4)
    (sound : ∀ l, LevelSound env.map x.unit l) :
    let frame := fun l => alertFrame env.vectorBase l (shownMask env.map x.unit l)
    (x.resync env).port = (((x.port.offerAlert 3 (frame 3)).offerAlert 2 (frame 2)).offerAlert 1 (frame 1)).offerAlert 0 (frame 0) ∧
    (x.resync env).unit.capture = x.unit.capture ∧
    ∀ l, LevelResynced env.now (x.unit.level l) ((x.resync env).unit.level l) := by
  obtain ⟨port, capture, done, -⟩ := FaultSide.resyncLevels env (shownMask env.map x.unit) [3, 2, 1, 0] (by decide) levels
    (fun l _ => sound l) (fun _ _ => rfl)
  exact ⟨port, capture, fun l => done l (by fin_cases l <;> decide)⟩

/-! ## The recovery of a port (R154) -/

/-- A port in service, its condition handed absent: a recovery but for the frames of the levels (R154). -/
def State.backInService (s : State) (p : PortId) : State := (s.setPort p (s.port p).recover).handOff (.absent (portClass p))

theorem State.backInService_faultEnv (s : State) (p : PortId) : (s.backInService p).faultEnv = s.faultEnv := by cases p <;> rfl

theorem State.recoverPort_a (s : State) :
    s.recoverPort .a =
      (s.backInService .a).withFaultSide ((s.backInService .a).faultSide.resync (s.backInService .a).faultEnv) := rfl

/-- The levels are sound when a recovered port's condition has been taken (R154, R161). -/
theorem State.FaultsSound.backInService {s : State} (h : s.FaultsSound) (p : PortId) :
    (s.backInService p).faults.levels.length = 4 ∧
    ∀ l, LevelSound s.store.chassis.alertMap (s.backInService p).faults l := by
  have unit : (s.setPort p (s.port p).recover).faults = s.faults := State.setPort_faults _ _ _
  have map : (s.setPort p (s.port p).recover).faultEnv.map = s.store.chassis.alertMap := by simp [State.faultEnv]
  have kept := FaultSide.absent_levelSound (env := (s.setPort p (s.port p).recover).faultEnv) (portClass p)
    (x := (s.setPort p (s.port p).recover).faultSide) (by rw [State.faultSide, unit]; exact h.classes)
    (by rw [State.faultSide, unit]; exact h.levels) (by rw [State.faultSide, unit, map]; exact h.level)
  rw [map] at kept
  exact kept

end Sys2Proof.Machine

namespace Sys2Proof.Proofs
open Sys2Proof.Machine

/-- Settles O33: a due recovery puts the port back in service, and at Port A each level is sound as its frame is queued. -/
theorem portRecovers : Obligations.PortRecovers := by
  unfold Obligations.PortRecovers
  intro s p sound q back frame
  have back_eq : back = s.backInService p := by cases p <;> rfl
  clear_value back
  subst back_eq
  refine ⟨fun start off timer due => ?due, fun waits => ?waits⟩
  case due =>
    have due := (Port.recoveryDue_iff (s.port p) s.now).2 ⟨off, start, timer, due⟩
    have recovers : exec (.recoveryTimerExpiry p) s = .next (s.recoverPort p) := congrArg Host.Outcome.next (if_pos due)
    obtain ⟨levels, level⟩ := sound.backInService p
    refine ⟨?portB, ?portA⟩
    case portB =>
      rintro rfl
      exact recovers
    case portA =>
      rintro rfl
      obtain ⟨port, capture, done⟩ := FaultSide.resync_frames (s.backInService .a).faultEnv levels level
      rw [s.backInService_faultEnv] at port done
      refine ⟨_, recovers, ?_⟩
      rw [State.recoverPort_a, State.withFaultSide_portA, State.withFaultSide_faults]
      exact ⟨rfl, port, capture, fun l => ⟨(done l).frames, (done l).idle, (done l).closing, (done l).active⟩⟩
  case waits =>
    have early : ¬ (s.port p).recoveryDue s.now := by
      rw [Port.recoveryDue_iff]
      rintro ⟨off, start, timer, due⟩
      rcases waits with on | early
      · exact on off
      · exact Nat.not_lt.2 due (early start timer)
    exact congrArg Host.Outcome.next (if_neg early)

end Sys2Proof.Proofs
end

section
/-! What the operations of the fault unit do to its class records, levels, captures and counts, said exactly (R159 to R163, R165, R166,
R168). -/

namespace Sys2Proof.Machine

/-! ## The records -/

/-- The class records under a changed one. -/
theorem FaultUnit.record_modifyRecord {u : FaultUnit} (classes : u.classes.length = 12) (c d : FaultClass)
    (f : ClassRecord → ClassRecord) : (u.modifyRecord c f).record d = if d = c then f (u.record d) else u.record d := by
  split
  · rename_i same
    rw [same, FaultUnit.record_modifyRecord_same _ _ _ classes]
  · rename_i other
    exact FaultUnit.record_modifyRecord_ne _ _ other

@[simp] theorem FaultUnit.setAsserted_length (u : FaultUnit) (c : FaultClass) (b : Bool) :
    (u.setAsserted c b).classes.length = u.classes.length := u.modifyRecord_length c _
@[simp] theorem FaultUnit.setAsserted_levels (u : FaultUnit) (c : FaultClass) (b : Bool) : (u.setAsserted c b).levels = u.levels := rfl

theorem FaultUnit.record_setAsserted {u : FaultUnit} (classes : u.classes.length = 12) (c d : FaultClass) (b : Bool) :
    (u.setAsserted c b).record d = if d = c then { u.record d with asserted := b } else u.record d :=
  FaultUnit.record_modifyRecord classes c d _

/-- The capture record and the three counts of the fault unit as a whole (R165, R174). -/
def FaultUnit.ledger (u : FaultUnit) : Option Capture × Nat × Nat × Nat := (u.capture, u.captures, u.acknowledgements, u.reassertions)

/-- The ledger, read field by field. -/
theorem FaultUnit.ledger_eq {u v : FaultUnit} (same : v.ledger = u.ledger) :
    v.capture = u.capture ∧ v.captures = u.captures ∧ v.acknowledgements = u.acknowledgements ∧ v.reassertions = u.reassertions := by
  simpa [FaultUnit.ledger] using same

/-! ## The capture of an occurrence (R165, R166) -/

@[simp] theorem FaultUnit.take_classes (u : FaultUnit) (env : FaultEnv) (c : FaultClass) (source : Source) (value : Half) :
    (u.take env c source value).classes = u.classes := by
  unfold FaultUnit.take
  split <;> rfl
@[simp] theorem FaultUnit.take_levels (u : FaultUnit) (env : FaultEnv) (c : FaultClass) (source : Source) (value : Half) :
    (u.take env c source value).levels = u.levels := by
  unfold FaultUnit.take
  split <;> rfl

/-- An occurrence counted: captured, and added to the occurrences of its class (R159). -/
def FaultUnit.counted (u : FaultUnit) (env : FaultEnv) (c : FaultClass) (source : Source) (value : Half) : FaultUnit :=
  (u.take env c source value).modifyRecord c (fun r => { r with occurrences := bump r.occurrences })

@[simp] theorem FaultUnit.counted_length (u : FaultUnit) (env : FaultEnv) (c : FaultClass) (source : Source) (value : Half) :
    (u.counted env c source value).classes.length = u.classes.length := by simp [FaultUnit.counted]
@[simp] theorem FaultUnit.counted_levels (u : FaultUnit) (env : FaultEnv) (c : FaultClass) (source : Source) (value : Half) :
    (u.counted env c source value).levels = u.levels := by simp [FaultUnit.counted]

theorem FaultUnit.record_counted {u : FaultUnit} (classes : u.classes.length = 12) (env : FaultEnv) (c d : FaultClass)
    (source : Source) (value : Half) : (u.counted env c source value).record d =
      if d = c then { u.record d with occurrences := bump (u.record d).occurrences } else u.record d := by
  have record : (u.take env c source value).record d = u.record d := by simp [FaultUnit.record]
  rw [FaultUnit.counted, FaultUnit.record_modifyRecord (by simpa using classes), record]

/-! ## A queued frame (R162, R168) -/

theorem isFollowEvent_iff {map : List AlertSetting} {c : FaultClass} :
    isFollowEvent map c ↔ c.isCondition = false ∧ (settingOf map c).release = .follow := by simp [isFollowEvent]

/-- A class that a frame does not release: a condition, or one that is LATCHED (R160). -/
theorem isFollowEvent_eq_false_iff {map : List AlertSetting} {c : FaultClass} :
    isFollowEvent map c = false ↔ c.isCondition ∨ (settingOf map c).release = .latched := by
  cases kind : c.isCondition <;> cases release : (settingOf map c).release <;> simp [isFollowEvent, kind, release]

/-- The FOLLOW events among the carried classes are released, and nothing else of a class changes (R162). -/
theorem FaultUnit.record_releaseCarried_eq {u : FaultUnit} (classes : u.classes.length = 12) (map : List AlertSetting)
    (carried : List FaultClass) (c : FaultClass) : (u.releaseCarried map carried).record c =
      { u.record c with asserted := (u.record c).asserted && !(decide (c ∈ carried) && isFollowEvent map c) } := by
  have fold : ∀ (released : List FaultClass) (u : FaultUnit), u.classes.length = 12 →
      (released.foldl (fun u c => u.setAsserted c false) u).record c =
        { u.record c with asserted := (u.record c).asserted && !decide (c ∈ released) } := by
    intro released
    induction released with
    | nil => intro u _; simp
    | cons d ds ih =>
      intro u classes
      rw [List.foldl_cons, ih _ (by simpa using classes), FaultUnit.record_setAsserted classes]
      by_cases same : c = d <;> simp [same]
  rw [FaultUnit.releaseCarried, fold _ u classes]
  simp [List.mem_filter, Bool.decide_and]

section

variable (env : FaultEnv) (l : Level) (x : FaultSide)

theorem FaultSide.emit_ledger : (x.emit env l).unit.ledger = x.unit.ledger := by
  unfold FaultSide.emit
  simp only
  split <;> simp only [FaultUnit.ledger, FaultUnit.modifyLevel] <;> rw [FaultUnit.releaseCarried_frame]

theorem FaultSide.emit_length (classes : x.unit.classes.length = 12) : (x.emit env l).unit.classes.length = 12 := by
  have fold : ∀ (released : List FaultClass) (u : FaultUnit),
      (released.foldl (fun u c => u.setAsserted c false) u).classes.length = u.classes.length := by
    intro released
    induction released with
    | nil => exact fun _ => rfl
    | cons d ds ih => exact fun u => (ih _).trans (u.setAsserted_length d false)
  unfold FaultSide.emit FaultUnit.releaseCarried
  simp only
  split <;> exact (fold _ _).trans classes

variable {l x}

theorem FaultSide.emit_record (classes : x.unit.classes.length = 12) (c : FaultClass) : (x.emit env l).unit.record c =
    { x.unit.record c with
      asserted := (x.unit.record c).asserted && !(decide (c ∈ shownMask env.map x.unit l) && isFollowEvent env.map c) } := by
  have released := FaultUnit.record_releaseCarried_eq
    (u := x.unit.modifyLevel l (fun r => { r with frames := bump r.frames })) classes env.map (shownMask env.map x.unit l) c
  unfold FaultSide.emit
  simp only
  split <;> exact released

/-- After a frame its level shows what the frame carried but for the FOLLOW events. -/
theorem FaultSide.shownMask_emit (classes : x.unit.classes.length = 12) : shownMask env.map (x.emit env l).unit l =
    (shownMask env.map x.unit l).filter (fun c => !isFollowEvent env.map c) := by
  simp only [shownMask, List.filter_filter]
  refine List.filter_congr fun c _ => ?_
  rw [FaultSide.emit_record env classes, Bool.eq_iff_iff]
  simp only [Bool.and_eq_true, Bool.not_eq_true', Bool.and_eq_false_iff, decide_eq_true_eq, decide_eq_false_iff_not, mem_shownMask]
  tauto

/-- A level's record after its frame: counted, and CLOSING where the frame carried FOLLOW events and nothing else (R162, R168). -/
theorem FaultSide.emit_level (levels : x.unit.levels.length = 4) :
    (x.emit env l).unit.level l = { x.unit.level l with
      frames := bump (x.unit.level l).frames
      phase := if shownMask env.map x.unit l ≠ [] ∧ shownMask env.map (x.emit env l).unit l = [] then .closing
        else (x.unit.level l).phase } := by
  have shown : shownMask env.map (x.emit env l).unit l = shownMask env.map ((x.unit.modifyLevel l
      (fun r => { r with frames := bump r.frames })).releaseCarried env.map (shownMask env.map x.unit l)) l := by
    unfold FaultSide.emit
    simp only
    split <;> rfl
  rw [shown]
  unfold FaultSide.emit
  simp only [decide_eq_true_eq]
  split
  · rw [FaultUnit.level_modifyLevel_same _ _ _ (by simpa using levels)]
    simp [FaultUnit.level_modifyLevel_same _ _ _ levels]
  · simp [FaultUnit.level_modifyLevel_same _ _ _ levels]

/-- A level whose frame carries a class that stays keeps its phase; one whose frame carries FOLLOW events alone is CLOSING. -/
theorem FaultSide.emit_phase (classes : x.unit.classes.length = 12) (levels : x.unit.levels.length = 4)
    (shows : shownMask env.map x.unit l ≠ []) : ((x.emit env l).unit.level l).phase =
      if ∃ c ∈ shownMask env.map x.unit l, isFollowEvent env.map c = false then (x.unit.level l).phase else .closing := by
  rw [FaultSide.emit_level env levels, FaultSide.shownMask_emit env classes]
  by_cases stays : ∃ c ∈ shownMask env.map x.unit l, isFollowEvent env.map c = false
  · simp [List.filter_eq_nil_iff, stays]
  · simp [List.filter_eq_nil_iff, stays, shows]

end

/-! ## Additions to a level and removals from it (R168) -/

section

variable (env : FaultEnv) (l : Level) (x : FaultSide)

/-- The level as an addition starts it, before its frame: ACTIVE, its repeat timer started. -/
def FaultSide.activated : FaultSide :=
  { x with unit := x.unit.modifyLevel l (fun r => { r with phase := .active, repeatTimer := some env.now }) }

theorem FaultSide.levelAdd_eq : x.levelAdd env l = (x.activated env l).emit env l := rfl

theorem FaultSide.levelAdd_ledger : (x.levelAdd env l).unit.ledger = x.unit.ledger := FaultSide.emit_ledger env l (x.activated env l)

theorem FaultSide.levelAdd_length (classes : x.unit.classes.length = 12) : (x.levelAdd env l).unit.classes.length = 12 :=
  FaultSide.emit_length env l (x.activated env l) classes

theorem FaultSide.levelAdd_port :
    (x.levelAdd env l).port = x.port.offerAlert l (alertFrame env.vectorBase l (shownMask env.map x.unit l)) := rfl

variable {l x}

theorem FaultSide.levelAdd_record (classes : x.unit.classes.length = 12) (c : FaultClass) : (x.levelAdd env l).unit.record c =
    { x.unit.record c with
      asserted := (x.unit.record c).asserted && !(decide (c ∈ shownMask env.map x.unit l) && isFollowEvent env.map c) } :=
  FaultSide.emit_record env (x := x.activated env l) classes c

theorem FaultSide.levelAdd_level (classes : x.unit.classes.length = 12) (levels : x.unit.levels.length = 4)
    (shows : shownMask env.map x.unit l ≠ []) : (x.levelAdd env l).unit.level l =
      ⟨if ∃ c ∈ shownMask env.map x.unit l, isFollowEvent env.map c = false then .active else .closing, some env.now,
        bump (x.unit.level l).frames⟩ := by
  have levels' : (x.activated env l).unit.levels.length = 4 := (x.unit.modifyLevel_length l _).trans levels
  have start : (x.activated env l).unit.level l = { x.unit.level l with phase := .active, repeatTimer := some env.now } :=
    x.unit.level_modifyLevel_same l _ levels
  have phase := FaultSide.emit_phase env (x := x.activated env l) (l := l) classes levels' shows
  obtain ⟨frames, timer⟩ := FaultSide.emit_level_same env (x := x.activated env l) (l := l) levels'
  rw [start] at phase frames timer
  exact (congrArg₂ (fun p t => LevelRecord.mk p t _) phase timer).trans (congrArg (LevelRecord.mk _ _) frames)

theorem FaultSide.levelAdd_level_ne {k : Level} (other : k ≠ l) : (x.levelAdd env l).unit.level k = x.unit.level k :=
  (FaultSide.emit_level_ne env (x := x.activated env l) other).trans (x.unit.level_modifyLevel_ne _ other)

/-- An ACTIVE level whose mask has become empty queues its final frame and becomes IDLE (R168). -/
theorem FaultSide.levelRemove_emptied (active : (x.unit.level l).phase = .active) (empty : shownMask env.map x.unit l = []) :
    x.levelRemove env l = ⟨(x.unit.modifyLevel l (fun r => { r with phase := .idle, repeatTimer := none })).modifyLevel l
      (fun r => { r with frames := bump r.frames }), x.port.offerAlert l (alertFrame env.vectorBase l [])⟩ := by
  have unit := FaultSide.emit_unit_empty env l
    { x with unit := x.unit.modifyLevel l (fun r => { r with phase := .idle, repeatTimer := none }) } empty
  have port := FaultSide.emit_port env l
    { x with unit := x.unit.modifyLevel l (fun r => { r with phase := .idle, repeatTimer := none }) }
  rw [shownMask_modifyLevel, empty] at port
  rw [FaultSide.levelRemove, if_pos ⟨active, empty⟩, ← unit, ← port]

theorem FaultSide.levelRemove_shows (shows : shownMask env.map x.unit l ≠ []) : x.levelRemove env l = x :=
  if_neg fun emptied => shows emptied.2

/-- A removal touches no class: what its frame carries is nothing. -/
theorem FaultSide.levelRemove_frame : (x.levelRemove env l).unit = { x.unit with levels := (x.levelRemove env l).unit.levels } := by
  by_cases emptied : (x.unit.level l).phase = .active ∧ shownMask env.map x.unit l = []
  · rw [FaultSide.levelRemove_emptied env emptied.1 emptied.2]
    rfl
  · rw [FaultSide.levelRemove, if_neg emptied]

theorem FaultSide.levelRemove_record (c : FaultClass) : (x.levelRemove env l).unit.record c = x.unit.record c := by
  rw [FaultSide.levelRemove_frame]
  rfl

theorem FaultSide.levelRemove_ledger : (x.levelRemove env l).unit.ledger = x.unit.ledger := by
  rw [FaultSide.levelRemove_frame]
  rfl

theorem FaultSide.levelRemove_length : (x.levelRemove env l).unit.classes.length = x.unit.classes.length := by
  rw [FaultSide.levelRemove_frame]

theorem FaultSide.shownMask_levelRemove (k : Level) : shownMask env.map (x.levelRemove env l).unit k = shownMask env.map x.unit k :=
  shownMask_congr fun c _ _ => congrArg ClassRecord.asserted (FaultSide.levelRemove_record env c)

theorem FaultSide.levelRemove_level_ne {k : Level} (other : k ≠ l) : (x.levelRemove env l).unit.level k = x.unit.level k := by
  by_cases emptied : (x.unit.level l).phase = .active ∧ shownMask env.map x.unit l = []
  · rw [FaultSide.levelRemove_emptied env emptied.1 emptied.2, FaultUnit.level_modifyLevel_ne _ _ other,
      FaultUnit.level_modifyLevel_ne _ _ other]
  · rw [FaultSide.levelRemove, if_neg emptied]

theorem FaultSide.levelRemove_level_emptied (levels : x.unit.levels.length = 4) (active : (x.unit.level l).phase = .active)
    (empty : shownMask env.map x.unit l = []) :
    (x.levelRemove env l).unit.level l = ⟨.idle, none, bump (x.unit.level l).frames⟩ := by
  rw [FaultSide.levelRemove_emptied env active empty, FaultUnit.level_modifyLevel_same _ _ _ (by simpa using levels),
    FaultUnit.level_modifyLevel_same _ _ _ levels]

end

/-! ## A release (R160) -/

section

variable (env : FaultEnv) {c : FaultClass} {x : FaultSide}

/-- The release of a class that its level shows: the mark cleared, then the removal from the level. -/
theorem FaultSide.release_shown (asserted : (x.unit.record c).asserted) (unmasked : (settingOf env.map c).masked = false) :
    x.release env c =
      ({ x with unit := x.unit.setAsserted c false } : FaultSide).levelRemove env (settingOf env.map c).level :=
  if_pos ⟨asserted, unmasked⟩

theorem FaultSide.release_masked (masked : (settingOf env.map c).masked) :
    x.release env c = { x with unit := x.unit.setAsserted c false } := by
  rw [FaultSide.release]
  simp [masked]

/-- A release clears the mark of its class alone, and beyond that reaches levels alone. -/
theorem FaultSide.release_frame (c : FaultClass) (x : FaultSide) :
    (x.release env c).unit = { x.unit.setAsserted c false with levels := (x.release env c).unit.levels } := by
  unfold FaultSide.release
  simp only
  split
  · exact FaultSide.levelRemove_frame env (x := { x with unit := x.unit.setAsserted c false })
  · rfl

theorem FaultSide.release_record (classes : x.unit.classes.length = 12) (d : FaultClass) :
    (x.release env c).unit.record d = if d = c then { x.unit.record d with asserted := false } else x.unit.record d := by
  rw [FaultSide.release_frame, ← FaultUnit.record_setAsserted classes]
  rfl

theorem FaultSide.release_ledger (c : FaultClass) (x : FaultSide) : (x.release env c).unit.ledger = x.unit.ledger := by
  rw [FaultSide.release_frame]
  rfl

theorem FaultSide.release_length (c : FaultClass) (x : FaultSide) :
    (x.release env c).unit.classes.length = x.unit.classes.length := by
  rw [FaultSide.release_frame]
  exact x.unit.setAsserted_length c false

end

/-! ## An occurrence (R159) -/

section

variable (env : FaultEnv) (c : FaultClass) (source : Source) (value : Half) {x : FaultSide}

/-- The unit that has counted an occurrence of a class not asserted before, and asserted it. -/
def FaultSide.asserting (x : FaultSide) : FaultSide := { x with unit := (x.unit.counted env c source value).setAsserted c true }

theorem FaultSide.occur_asserted (asserted : (x.unit.record c).asserted) :
    x.occur env c source value = { x with unit := x.unit.counted env c source value } := if_pos asserted

theorem FaultSide.occur_masked (released : (x.unit.record c).asserted = false) (masked : (settingOf env.map c).masked) :
    x.occur env c source value =
      { x with unit := (x.unit.counted env c source value).setAsserted c (!isFollowEvent env.map c) } := by
  simp [FaultSide.occur, released, masked, FaultUnit.counted]

theorem FaultSide.occur_shown (released : (x.unit.record c).asserted = false) (unmasked : (settingOf env.map c).masked = false) :
    x.occur env c source value = (x.asserting env c source value).levelAdd env (settingOf env.map c).level := by
  simp [FaultSide.occur, released, unmasked, FaultUnit.counted, FaultSide.asserting]

theorem FaultSide.asserting_length (classes : x.unit.classes.length = 12) :
    (x.asserting env c source value).unit.classes.length = 12 := by simpa [FaultSide.asserting] using classes

theorem FaultSide.asserting_record (classes : x.unit.classes.length = 12) (d : FaultClass) :
    (x.asserting env c source value).unit.record d =
      if d = c then { x.unit.record d with asserted := true, occurrences := bump (x.unit.record d).occurrences }
      else x.unit.record d := by
  rw [FaultSide.asserting, FaultUnit.record_setAsserted (by simpa using classes), FaultUnit.record_counted classes]
  split <;> rfl

/-- An asserted unmasked class joins the mask of its level, and what else the level shows stays. -/
theorem FaultSide.shownMask_asserting (classes : x.unit.classes.length = 12) (unmasked : (settingOf env.map c).masked = false) :
    shownMask env.map (x.asserting env c source value).unit (settingOf env.map c).level =
      allClasses.filter (fun d => decide (d = c ∨ d ∈ shownMask env.map x.unit (settingOf env.map c).level)) := by
  refine List.filter_congr fun d _ => ?_
  rw [FaultSide.asserting_record env c source value classes]
  by_cases same : d = c
  · simp [same, unmasked]
  · rw [if_neg same, Bool.eq_iff_iff]
    simp [same, mem_shownMask, and_assoc]

theorem FaultSide.shownMask_asserting_ne (classes : x.unit.classes.length = 12) {k : Level} (other : k ≠ (settingOf env.map c).level) :
    shownMask env.map (x.asserting env c source value).unit k = shownMask env.map x.unit k := by
  refine shownMask_congr fun d _ level => ?_
  rw [FaultSide.asserting_record env c source value classes, if_neg]
  rintro rfl
  exact other level.symm

/-- An occurrence leaves in the ledger what its capture writes. -/
theorem FaultSide.occur_ledger (x : FaultSide) :
    (x.occur env c source value).unit.ledger = (x.unit.take env c source value).ledger := by
  unfold FaultSide.occur
  simp only
  split
  · rfl
  · split
    · rfl
    · exact FaultSide.levelAdd_ledger env _ _

/-- An occurrence is counted and asserts its class, unless that is a FOLLOW event, which is released at once (R159, R162). -/
theorem FaultSide.occur_record (classes : x.unit.classes.length = 12) : (x.occur env c source value).unit.record c =
    { x.unit.record c with
      occurrences := bump (x.unit.record c).occurrences
      asserted := (x.unit.record c).asserted || !isFollowEvent env.map c } := by
  cases asserted : (x.unit.record c).asserted with
  | true => simp [FaultSide.occur_asserted env c source value asserted, FaultUnit.record_counted classes, asserted]
  | false =>
    cases masked : (settingOf env.map c).masked with
    | true =>
      rw [FaultSide.occur_masked env c source value asserted masked, FaultUnit.record_setAsserted (by simpa using classes),
        FaultUnit.record_counted classes]
      simp
    | false =>
      rw [FaultSide.occur_shown env c source value asserted masked,
        FaultSide.levelAdd_record env (FaultSide.asserting_length env c source value classes),
        FaultSide.asserting_record env c source value classes,
        FaultSide.shownMask_asserting env c source value classes masked]
      simp [mem_allClasses]

/-- An occurrence of another class leaves a class's record but for the asserted mark, and that too unless the class is a FOLLOW
event, which a frame may release (R162). -/
theorem FaultSide.occur_record_ne (classes : x.unit.classes.length = 12) {d : FaultClass} (other : d ≠ c) :
    ∃ b, (x.occur env c source value).unit.record d = { x.unit.record d with asserted := b } ∧
      (isFollowEvent env.map d = false → b = (x.unit.record d).asserted) := by
  have counted := FaultUnit.record_counted classes env c d source value
  rw [if_neg other] at counted
  cases asserted : (x.unit.record c).asserted with
  | true => exact ⟨_, (congrArg (·.unit.record d) (FaultSide.occur_asserted env c source value asserted)).trans counted, fun _ => rfl⟩
  | false =>
    cases masked : (settingOf env.map c).masked with
    | true =>
      rw [FaultSide.occur_masked env c source value asserted masked, FaultUnit.record_setAsserted (by simpa using classes),
        if_neg other]
      exact ⟨_, counted, fun _ => rfl⟩
    | false =>
      rw [FaultSide.occur_shown env c source value asserted masked,
        FaultSide.levelAdd_record env (FaultSide.asserting_length env c source value classes),
        FaultSide.asserting_record env c source value classes, if_neg other]
      exact ⟨_, rfl, fun stays => by simp [stays]⟩

end

/-! ## The cause of a condition (R158, R161) -/

section

variable (c : FaultClass) (source : Source) (value : Half) (x : FaultSide)

/-- A cause marked present, with its source and value. -/
def FaultSide.marked : FaultSide :=
  { x with unit := x.unit.modifyRecord c (fun r => { r with cause := true, lastSource := source, lastValue := value }) }

/-- A cause marked absent. -/
def FaultSide.cleared : FaultSide := { x with unit := x.unit.modifyRecord c (fun r => { r with cause := false }) }

variable {c x}

theorem FaultSide.takeHandOff_present (env : FaultEnv) (absent : (x.unit.record c).cause = false) :
    x.takeHandOff env (.present c source value) = (x.marked c source value).occur env c source value := by
  simp [FaultSide.takeHandOff, absent, FaultSide.marked]

theorem FaultSide.takeHandOff_absent_released {env : FaultEnv} (present : (x.unit.record c).cause)
    (asserted : (x.unit.record c).asserted) (follow : (settingOf env.map c).release = .follow) :
    x.takeHandOff env (.absent c) = (x.cleared c).release env c := by
  simp [FaultSide.takeHandOff, present, asserted, follow, FaultSide.cleared]

theorem FaultSide.takeHandOff_absent_kept {env : FaultEnv} (present : (x.unit.record c).cause)
    (kept : (x.unit.record c).asserted → (settingOf env.map c).release = .latched) :
    x.takeHandOff env (.absent c) = x.cleared c := by
  cases asserted : (x.unit.record c).asserted with
  | false => simp [FaultSide.takeHandOff, present, asserted, FaultSide.cleared]
  | true => simp [FaultSide.takeHandOff, present, kept asserted, FaultSide.cleared]

variable (c)

theorem FaultSide.marked_record (classes : x.unit.classes.length = 12) (d : FaultClass) :
    (x.marked c source value).unit.record d =
      if d = c then { x.unit.record d with cause := true, lastSource := source, lastValue := value } else x.unit.record d :=
  FaultUnit.record_modifyRecord classes c d _

theorem FaultSide.marked_length (classes : x.unit.classes.length = 12) :
    (x.marked c source value).unit.classes.length = 12 := (x.unit.modifyRecord_length c _).trans classes

theorem FaultSide.cleared_record (classes : x.unit.classes.length = 12) (d : FaultClass) :
    (x.cleared c).unit.record d = if d = c then { x.unit.record d with cause := false } else x.unit.record d :=
  FaultUnit.record_modifyRecord classes c d _

theorem FaultSide.cleared_length (classes : x.unit.classes.length = 12) : (x.cleared c).unit.classes.length = 12 :=
  (x.unit.modifyRecord_length c _).trans classes

end

/-! ## Acknowledgement (R163) -/

/-- The class of a number, one of 1 to 12 (R157). -/
theorem classOfNumber_eq_some_iff {n : Nat} {c : FaultClass} : classOfNumber n = some c ↔ c.number = n := by
  constructor
  · unfold classOfNumber
    split
    · nofun
    · intro named
      obtain ⟨small, rfl⟩ := List.getElem?_eq_some_iff.1 named
      have numbered : ∀ i : Fin 12, (allClasses[i.val]'i.isLt).number = i.val + 1 := by decide
      exact (numbered ⟨n - 1, small⟩).trans (Nat.succ_pred_eq_of_ne_zero ‹_›)
  · rintro rfl
    cases c <;> rfl

theorem classOfNumber_eq_none {n : Nat} (outside : n = 0 ∨ 12 < n) : classOfNumber n = none := by
  cases named : classOfNumber n with
  | none => rfl
  | some c =>
    have number : c.index + 1 = n := classOfNumber_eq_some_iff.1 named
    have small := c.index_lt
    omega

section

variable (env : FaultEnv) (c : FaultClass) (x : FaultSide)

/-- A re-assertion counted, before its level is treated: an occurrence with the source and value of the cause as last handed. -/
def FaultSide.recounted : FaultSide :=
  let unit := x.unit.counted env c (x.unit.record c).lastSource (x.unit.record c).lastValue
  { x with unit := { unit with reassertions := bump unit.reassertions } }

/-- A release by acknowledgement counted, before the release. -/
def FaultSide.acknowledged : FaultSide := { x with unit := { x.unit with acknowledgements := bump x.unit.acknowledgements } }

variable {c x}

theorem FaultSide.reassert_masked (masked : (settingOf env.map c).masked) : x.reassert env c = x.recounted env c := if_pos masked

theorem FaultSide.reassert_shown (unmasked : (settingOf env.map c).masked = false) :
    x.reassert env c = (x.recounted env c).levelAdd env (settingOf env.map c).level := if_neg (by simp [unmasked])

theorem FaultSide.recounted_length (classes : x.unit.classes.length = 12) : (x.recounted env c).unit.classes.length = 12 :=
  (FaultUnit.counted_length ..).trans classes

theorem FaultSide.recounted_levels : (x.recounted env c).unit.levels = x.unit.levels := FaultUnit.counted_levels ..

theorem FaultSide.recounted_record (classes : x.unit.classes.length = 12) (d : FaultClass) : (x.recounted env c).unit.record d =
    if d = c then { x.unit.record d with occurrences := bump (x.unit.record d).occurrences } else x.unit.record d :=
  FaultUnit.record_counted classes ..

theorem FaultSide.reassert_ledger : (x.reassert env c).unit.ledger = (x.recounted env c).unit.ledger := by
  unfold FaultSide.reassert
  simp only
  split
  · rfl
  · exact FaultSide.levelAdd_ledger env _ _

/-- A re-assertion of a condition counts it, and leaves it asserted. -/
theorem FaultSide.reassert_record (classes : x.unit.classes.length = 12) (kind : c.isCondition) :
    (x.reassert env c).unit.record c = { x.unit.record c with occurrences := bump (x.unit.record c).occurrences } := by
  have recounted := FaultSide.recounted_record env (c := c) classes c
  rw [if_pos rfl] at recounted
  cases masked : (settingOf env.map c).masked with
  | true => rw [FaultSide.reassert_masked env masked, recounted]
  | false =>
    rw [FaultSide.reassert_shown env masked, FaultSide.levelAdd_record env (FaultSide.recounted_length env classes), recounted]
    simp [isFollowEvent, kind]

/-- A re-assertion leaves the marks of every condition. -/
theorem FaultSide.reassert_marks (classes : x.unit.classes.length = 12) {d : FaultClass} (kind : d.isCondition) :
    ((x.reassert env c).unit.record d).asserted = (x.unit.record d).asserted ∧
    ((x.reassert env c).unit.record d).cause = (x.unit.record d).cause := by
  have recounted : ((x.recounted env c).unit.record d).asserted = (x.unit.record d).asserted ∧
      ((x.recounted env c).unit.record d).cause = (x.unit.record d).cause := by
    rw [FaultSide.recounted_record env classes]
    split <;> exact ⟨rfl, rfl⟩
  cases masked : (settingOf env.map c).masked with
  | true => rwa [FaultSide.reassert_masked env masked]
  | false =>
    rw [FaultSide.reassert_shown env masked, FaultSide.levelAdd_record env (FaultSide.recounted_length env classes)]
    simpa [isFollowEvent, kind] using recounted

variable {number : Nat} (named : classOfNumber number = some c)
include named

theorem FaultSide.acknowledge_released (released : (x.unit.record c).asserted = false) :
    x.acknowledge env number = (x, .notAsserted) := by simp [FaultSide.acknowledge, named, released]

theorem FaultSide.acknowledge_follow (asserted : (x.unit.record c).asserted) (kind : c.isCondition)
    (follow : (settingOf env.map c).release = .follow) : x.acknowledge env number = (x, .notReleasable) := by
  simp [FaultSide.acknowledge, named, asserted, kind, follow]

theorem FaultSide.acknowledge_reasserts (asserted : (x.unit.record c).asserted) (kind : c.isCondition)
    (latched : (settingOf env.map c).release = .latched) (cause : (x.unit.record c).cause) :
    x.acknowledge env number = (x.reassert env c, .done) := by
  simp [FaultSide.acknowledge, named, asserted, kind, latched, cause]

theorem FaultSide.acknowledge_releases (asserted : (x.unit.record c).asserted)
    (releasable : c.isCondition = false ∨ ((settingOf env.map c).release = .latched ∧ (x.unit.record c).cause = false)) :
    x.acknowledge env number = (x.ackRelease env c, .done) := by
  rcases releasable with kind | ⟨latched, cause⟩
  · simp [FaultSide.acknowledge, named, asserted, kind]
  · cases kind : c.isCondition <;> simp [FaultSide.acknowledge, named, asserted, kind, latched, cause]

end

/-- Everything an acknowledgement does: nothing, the re-assertion of a condition whose cause is present, or the release of an
event or of a condition without its cause. -/
theorem FaultSide.acknowledge_cases (env : FaultEnv) (number : Nat) (x : FaultSide) :
    (x.acknowledge env number).1 = x ∨ ∃ c, (x.unit.record c).asserted ∧
      ((c.isCondition ∧ (x.acknowledge env number).1 = x.reassert env c) ∨
        ((c.isCondition → (x.unit.record c).cause = false) ∧ (x.acknowledge env number).1 = x.ackRelease env c)) := by
  cases named : classOfNumber number with
  | none => exact .inl (by simp [FaultSide.acknowledge, named])
  | some c =>
    cases asserted : (x.unit.record c).asserted with
    | false => exact .inl (by rw [FaultSide.acknowledge_released env named asserted])
    | true =>
      cases kind : c.isCondition with
      | false =>
        exact .inr ⟨c, asserted, .inr ⟨fun h => absurd h (by simp [kind]), by
          rw [FaultSide.acknowledge_releases env named asserted (.inl kind)]⟩⟩
      | true =>
        cases release : (settingOf env.map c).release with
        | follow => exact .inl (by rw [FaultSide.acknowledge_follow env named asserted kind release])
        | latched =>
          cases cause : (x.unit.record c).cause with
          | true =>
            exact .inr ⟨c, asserted, .inl ⟨kind, by rw [FaultSide.acknowledge_reasserts env named asserted kind release cause]⟩⟩
          | false =>
            exact .inr ⟨c, asserted, .inr ⟨fun _ => cause, by
              rw [FaultSide.acknowledge_releases env named asserted (.inr ⟨release, cause⟩)]⟩⟩

/-! ## Repeats and resynchronisation (R169, R172) -/

/-- A repeat of a level that is not IDLE is its frame as at a recovery. -/
theorem FaultSide.repeatExpiry_eq (env : FaultEnv) {l : Level} {x : FaultSide} (runs : (x.unit.level l).phase ≠ .idle) :
    x.repeatExpiry env l = x.resyncLevel env l := by
  unfold FaultSide.repeatExpiry FaultSide.resyncLevel
  cases phase : (x.unit.level l).phase with
  | idle => exact absurd phase runs
  | active | closing => rfl

theorem FaultSide.repeatExpiry_idle (env : FaultEnv) {l : Level} {x : FaultSide} (idle : (x.unit.level l).phase = .idle) :
    x.repeatExpiry env l = x := by simp [FaultSide.repeatExpiry, idle]

end Sys2Proof.Machine
end

section
/-! Soundness of the fault unit, kept by each of its operations (R160 to R163, R168, R169, R171, R172). -/

namespace Sys2Proof.Machine

/-! ## Sound levels and a sound unit -/

/-- The records have their lengths, and each level's phase fits its mask and timer (R168). -/
structure FaultUnit.LevelsSound (map : List AlertSetting) (u : FaultUnit) : Prop where
  classes : u.classes.length = 12
  levels : u.levels.length = 4
  level : ∀ l, LevelSound map u l

/-- Levels and conditions are sound: `State.FaultsSound` in terms of the unit and the alert map (R161, R168). -/
structure FaultUnit.Sound (map : List AlertSetting) (u : FaultUnit) : Prop extends FaultUnit.LevelsSound map u where
  condition : ∀ c, ConditionSound map u c

theorem State.faultsSound_iff (s : State) :
    s.FaultsSound ↔ s.store.chassis.alertMap.length = 12 ∧ s.faults.Sound s.store.chassis.alertMap :=
  ⟨fun h => ⟨h.map, ⟨h.classes, h.levels, h.level⟩, h.condition⟩,
    fun ⟨map, h⟩ => ⟨h.classes, h.levels, map, h.level, h.condition⟩⟩

/-- A condition's soundness is a matter of its own two marks and its release type. -/
theorem ConditionSound.congr {map map' : List AlertSetting} {u v : FaultUnit} {c : FaultClass} (sound : ConditionSound map u c)
    (asserted : (v.record c).asserted = (u.record c).asserted) (cause : (v.record c).cause = (u.record c).cause)
    (release : (settingOf map' c).release = (settingOf map c).release := by rfl) : ConditionSound map' v c := by
  intro kind
  rw [asserted, cause, release]
  exact sound kind

/-- A released class is sound where its cause is absent. -/
theorem ConditionSound.of_released {map : List AlertSetting} {u : FaultUnit} {c : FaultClass}
    (released : (u.record c).asserted = false) (cause : c.isCondition → (u.record c).cause = false) : ConditionSound map u c :=
  fun kind => ⟨fun present => absurd present (by simp [cause kind]), fun asserted => absurd asserted (by simp [released])⟩

/-- What leaves the asserted marks and the levels leaves the levels sound. -/
theorem FaultUnit.LevelsSound.congr {map : List AlertSetting} {u v : FaultUnit} (sound : u.LevelsSound map)
    (classes : v.classes.length = 12) (levels : v.levels = u.levels)
    (asserted : ∀ c, (settingOf map c).masked = false → (v.record c).asserted = (u.record c).asserted) : v.LevelsSound map where
  classes := classes
  levels := levels ▸ sound.levels
  level l := (sound.level l).congr (by rw [FaultUnit.level, FaultUnit.level, levels])
    (shownMask_congr fun c unmasked _ => asserted c unmasked)

/-! ## Frames, additions and removals (R168) -/

section

variable {env : FaultEnv} {l : Level} {x : FaultSide}

/-- A frame leaves every level sound: what it releases of its own level's mask, the phase follows (R162). -/
theorem FaultUnit.LevelsSound.emit (sound : x.unit.LevelsSound env.map) : (x.emit env l).unit.LevelsSound env.map where
  classes := FaultSide.emit_length env l x sound.classes
  levels := (FaultSide.emit_levels_length env l x).trans sound.levels
  level k := by
    by_cases same : k = l
    · subst same
      have level := sound.level k
      have after := FaultSide.shownMask_emit env (l := k) sound.classes
      unfold LevelSound at level ⊢
      rw [FaultSide.emit_level env sound.levels]
      by_cases emptied : shownMask env.map x.unit k ≠ [] ∧ shownMask env.map (x.emit env k).unit k = []
      · obtain ⟨-, runs⟩ := (sound.level k).active emptied.1
        simpa [emptied] using runs
      · rw [if_neg emptied]
        cases phase : (x.unit.level k).phase with
        | active =>
          rw [phase] at level
          exact ⟨fun empty => emptied ⟨level.1, empty⟩, level.2⟩
        | idle | closing =>
          rw [phase] at level
          exact ⟨by rw [after, level.1]; rfl, level.2⟩
    · exact (sound.level k).congr (FaultSide.emit_level_ne env same) (FaultSide.shownMask_emit_ne env same)

/-- An addition to a level that shows a class leaves it sound, whatever it was before. -/
theorem FaultSide.levelAdd_levelsSound (classes : x.unit.classes.length = 12) (levels : x.unit.levels.length = 4)
    (shows : shownMask env.map x.unit l ≠ []) (others : ∀ k, k ≠ l → LevelSound env.map x.unit k) :
    (x.levelAdd env l).unit.LevelsSound env.map := by
  have activated : (x.activated env l).unit.LevelsSound env.map := by
    refine ⟨classes, (x.unit.modifyLevel_length l _).trans levels, fun k => ?_⟩
    by_cases same : k = l
    · subst same
      have level := x.unit.level_modifyLevel_same k (fun r => { r with phase := .active, repeatTimer := some env.now }) levels
      unfold LevelSound
      rw [FaultSide.activated, level]
      exact ⟨shows, nofun⟩
    · exact (others k same).congr (x.unit.level_modifyLevel_ne _ same) rfl
  exact activated.emit

/-- A removal from an ACTIVE level leaves it sound, and every other level that is sound. -/
theorem FaultSide.levelRemove_sound_at {k : Level} (levels : x.unit.levels.length = 4) (active : (x.unit.level l).phase = .active)
    (runs : (x.unit.level l).repeatTimer ≠ none) (other : k ≠ l → LevelSound env.map x.unit k) :
    LevelSound env.map (x.levelRemove env l).unit k := by
  by_cases same : k = l
  · subst same
    by_cases empty : shownMask env.map x.unit k = []
    · unfold LevelSound
      rw [FaultSide.levelRemove_level_emptied env levels active empty, FaultSide.shownMask_levelRemove]
      exact ⟨empty, rfl⟩
    · unfold LevelSound
      rw [FaultSide.levelRemove_shows env empty, active]
      exact ⟨empty, runs⟩
  · exact (other same).congr (FaultSide.levelRemove_level_ne env same) (FaultSide.shownMask_levelRemove env k)

/-- A release keeps the levels sound (R160). -/
theorem FaultUnit.LevelsSound.release (sound : x.unit.LevelsSound env.map) (c : FaultClass) :
    (x.release env c).unit.LevelsSound env.map where
  classes := (FaultSide.release_length env c x).trans sound.classes
  levels := (FaultSide.release_levels_length env c x).trans sound.levels
  level := FaultSide.release_levelSound c sound.classes sound.levels sound.level

/-! ## Occurrences and hand-offs (R158, R159, R161) -/

/-- An occurrence keeps the levels sound: a class asserted anew joins its level, and one masked shows nowhere. -/
theorem FaultUnit.LevelsSound.occur (sound : x.unit.LevelsSound env.map) (c : FaultClass) (source : Source) (value : Half) :
    (x.occur env c source value).unit.LevelsSound env.map := by
  have counted := fun d => FaultUnit.record_counted sound.classes env c d source value
  cases asserted : (x.unit.record c).asserted with
  | true =>
    rw [FaultSide.occur_asserted env c source value asserted]
    refine sound.congr (by simpa using sound.classes) (by simp) fun d _ => ?_
    rw [counted]
    split <;> rfl
  | false =>
    cases masked : (settingOf env.map c).masked with
    | true =>
      rw [FaultSide.occur_masked env c source value asserted masked]
      refine sound.congr (by simpa using sound.classes) (by simp) fun d unmasked => ?_
      rw [FaultUnit.record_setAsserted (by simpa using sound.classes), if_neg (by rintro rfl; simp [masked] at unmasked), counted]
      split <;> rfl
    | false =>
      rw [FaultSide.occur_shown env c source value asserted masked]
      refine FaultSide.levelAdd_levelsSound (FaultSide.asserting_length env c source value sound.classes)
        (by simpa [FaultSide.asserting] using sound.levels) ?_ fun k other => ?_
      · rw [FaultSide.shownMask_asserting env c source value sound.classes masked]
        exact List.ne_nil_of_mem (List.mem_filter.2 ⟨mem_allClasses c, by simp⟩)
      · refine (sound.level k).congr ?_ (FaultSide.shownMask_asserting_ne env c source value sound.classes other)
        simp [FaultSide.asserting, FaultUnit.level]

/-- An occurrence leaves the conditions sound, where its own class is an event or has its cause. -/
theorem FaultSide.occur_conditionSound (classes : x.unit.classes.length = 12) (c : FaultClass) (source : Source) (value : Half)
    (cause : c.isCondition → (x.unit.record c).cause) (others : ∀ d, d ≠ c → ConditionSound env.map x.unit d) (d : FaultClass) :
    ConditionSound env.map (x.occur env c source value).unit d := by
  by_cases same : d = c
  · subst same
    intro kind
    rw [FaultSide.occur_record env d source value classes]
    exact ⟨fun _ => by simp [isFollowEvent, kind], fun _ _ => cause kind⟩
  · intro kind
    obtain ⟨b, record, stays⟩ := FaultSide.occur_record_ne env c source value classes same
    rw [record, stays (by simp [isFollowEvent, kind])]
    exact others d same kind

/-- A release leaves the conditions sound, where its own class is an event or has no cause. -/
theorem FaultSide.release_conditionSound (classes : x.unit.classes.length = 12) (c : FaultClass)
    (cause : c.isCondition → (x.unit.record c).cause = false) (others : ∀ d, d ≠ c → ConditionSound env.map x.unit d)
    (d : FaultClass) : ConditionSound env.map (x.release env c).unit d := by
  have record := FaultSide.release_record env (c := c) classes
  by_cases same : d = c
  · subst same
    exact .of_released (by simp [record]) fun kind => by simp [record, cause kind]
  · exact (others d same).congr (by rw [record, if_neg same]) (by rw [record, if_neg same])

/-- An event hand-off names an event class (R157). -/
def HandOff.Proper : HandOff → Prop
  | .event c _ _ => c.isCondition = false
  | .present _ _ _ => True
  | .absent _ => True

/-- A proper hand-off keeps the fault unit sound (R158, R159, R161). -/
theorem FaultUnit.Sound.takeHandOff (sound : x.unit.Sound env.map) {h : HandOff} (proper : h.Proper) :
    (x.takeHandOff env h).unit.Sound env.map := by
  cases h with
  | event c source value =>
    exact ⟨sound.occur c source value, FaultSide.occur_conditionSound sound.classes c source value
      (fun kind => absurd kind (by simp [show c.isCondition = false from proper])) fun d _ => sound.condition d⟩
  | present c source value =>
    cases cause : (x.unit.record c).cause with
    | true => rwa [FaultSide.takeHandOff_idle env x _ (by simp [HandOff.matters, cause])]
    | false =>
      have record := FaultSide.marked_record c source value sound.classes
      have classes := FaultSide.marked_length c source value sound.classes
      have levels : (x.marked c source value).unit.LevelsSound env.map := sound.toLevelsSound.congr classes rfl fun d _ => by
        rw [record]
        split <;> rfl
      rw [FaultSide.takeHandOff_present source value env cause]
      refine ⟨levels.occur c source value, FaultSide.occur_conditionSound classes c source value (fun _ => ?_) fun d other => ?_⟩
      · rw [record, if_pos rfl]
      · exact (sound.condition d).congr (by rw [record, if_neg other]) (by rw [record, if_neg other])
  | absent c =>
    cases cause : (x.unit.record c).cause with
    | false => rwa [FaultSide.takeHandOff_idle env x _ (by simp [HandOff.matters, cause])]
    | true =>
      have record := FaultSide.cleared_record c sound.classes
      have classes := FaultSide.cleared_length c sound.classes
      have levels : (x.cleared c).unit.LevelsSound env.map := sound.toLevelsSound.congr classes rfl fun d _ => by
        rw [record]
        split <;> rfl
      have others : ∀ d, d ≠ c → ConditionSound env.map (x.cleared c).unit d := fun d other =>
        (sound.condition d).congr (by rw [record, if_neg other]) (by rw [record, if_neg other])
      by_cases follows : (x.unit.record c).asserted ∧ (settingOf env.map c).release = .follow
      · rw [FaultSide.takeHandOff_absent_released cause follows.1 follows.2]
        exact ⟨levels.release c, FaultSide.release_conditionSound classes c (fun _ => by simp [record]) others⟩
      · have latched : (x.unit.record c).asserted → (settingOf env.map c).release = .latched := fun asserted => by
          cases release : (settingOf env.map c).release with
          | latched => rfl
          | follow => exact absurd ⟨asserted, release⟩ follows
        rw [FaultSide.takeHandOff_absent_kept cause latched]
        refine ⟨levels, fun d => ?_⟩
        by_cases same : d = c
        · subst same
          intro _
          rw [record, if_pos rfl]
          exact ⟨nofun, fun asserted follow => absurd ⟨asserted, follow⟩ follows⟩
        · exact others d same

/-- The hand-offs of one event, in any order, keep the fault unit sound (R159). -/
theorem FaultUnit.Sound.takeAll (sound : x.unit.Sound env.map) {hs : List HandOff} (proper : ∀ h ∈ hs, h.Proper) :
    (x.takeAll env hs).unit.Sound env.map := by
  unfold FaultSide.takeAll
  induction hs generalizing x with
  | nil => exact sound
  | cons h hs ih =>
    exact ih (sound.takeHandOff (proper h List.mem_cons_self)) fun g m => proper g (List.mem_cons_of_mem _ m)

/-! ## Acknowledgement, repeats and resynchronisation (R163, R169, R172) -/

/-- An acknowledgement, refused or taken, keeps the fault unit sound: a re-asserted condition still shows, and what is released
has no cause. -/
theorem FaultUnit.Sound.acknowledge (sound : x.unit.Sound env.map) (number : Nat) :
    (x.acknowledge env number).1.unit.Sound env.map := by
  rcases x.acknowledge_cases env number with e | ⟨c, asserted, ⟨kind, e⟩ | ⟨cause, e⟩⟩ <;> rw [e]
  · exact sound
  · have classes := FaultSide.recounted_length env (c := c) sound.classes
    have levels := FaultSide.recounted_levels env (c := c) (x := x)
    have marks : ∀ d, ((x.recounted env c).unit.record d).asserted = (x.unit.record d).asserted := fun d => by
      rw [FaultSide.recounted_record env sound.classes]
      split <;> rfl
    have recounted : (x.recounted env c).unit.LevelsSound env.map := sound.toLevelsSound.congr classes levels fun d _ => marks d
    refine ⟨?_, fun d event => ?_⟩
    · cases masked : (settingOf env.map c).masked with
      | true => rwa [FaultSide.reassert_masked env masked]
      | false =>
        rw [FaultSide.reassert_shown env masked]
        refine FaultSide.levelAdd_levelsSound classes (levels ▸ sound.levels) ?_ fun k _ => recounted.level k
        exact List.ne_nil_of_mem (mem_shownMask.2 ⟨(marks c).trans asserted, masked, rfl⟩)
    · obtain ⟨asserted, cause⟩ := FaultSide.reassert_marks env (c := c) sound.classes event
      exact (sound.condition d).congr asserted cause rfl event
  · have levels : x.acknowledged.unit.LevelsSound env.map := sound.toLevelsSound.congr sound.classes rfl fun _ _ => rfl
    exact ⟨levels.release c, FaultSide.release_conditionSound (x := x.acknowledged) sound.classes c cause fun d _ => sound.condition d⟩

/-- A frame keeps the fault unit sound: it releases events alone. -/
theorem FaultUnit.Sound.emit (sound : x.unit.Sound env.map) (l : Level) : (x.emit env l).unit.Sound env.map :=
  ⟨sound.toLevelsSound.emit, fun c kind => by
    have record := FaultSide.emit_record env (l := l) sound.classes c
    exact (sound.condition c).congr (by simp [record, isFollowEvent, kind]) (by rw [record]) rfl kind⟩

theorem FaultUnit.Sound.resyncLevel (sound : x.unit.Sound env.map) (l : Level) : (x.resyncLevel env l).unit.Sound env.map := by
  rw [FaultSide.resyncLevel_eq env sound.levels]
  refine FaultUnit.Sound.emit (x := { x with unit := x.unit.modifyLevel l (LevelRecord.resynced env.now) })
    ⟨⟨sound.classes, (x.unit.modifyLevel_length l _).trans sound.levels, fun k => ?_⟩, sound.condition⟩ l
  by_cases same : k = l
  · subst same
    have level := sound.level k
    unfold LevelSound at level ⊢
    rw [FaultUnit.level_modifyLevel_same _ _ _ sound.levels]
    cases phase : (x.unit.level k).phase with
    | idle =>
      rw [phase] at level
      rw [LevelRecord.resynced_idle phase, phase]
      exact level
    | active =>
      rw [phase] at level
      rw [LevelRecord.resynced_active phase, phase]
      exact ⟨level.1, nofun⟩
    | closing =>
      rw [phase] at level
      rw [LevelRecord.resynced_closing phase]
      exact ⟨level.1, rfl⟩
  · exact (sound.level k).congr (x.unit.level_modifyLevel_ne _ same) rfl

theorem FaultUnit.Sound.resync (sound : x.unit.Sound env.map) : (x.resync env).unit.Sound env.map :=
  (((sound.resyncLevel 3).resyncLevel 2).resyncLevel 1).resyncLevel 0

theorem FaultUnit.Sound.repeatExpiry (sound : x.unit.Sound env.map) (l : Level) : (x.repeatExpiry env l).unit.Sound env.map := by
  by_cases idle : (x.unit.level l).phase = .idle
  · rwa [FaultSide.repeatExpiry_idle env idle]
  · rw [FaultSide.repeatExpiry_eq env idle]
    exact sound.resyncLevel l

end

end Sys2Proof.Machine
end

section
/-! A write of the alert map: what it does to its class, by the item written, and that it keeps the fault unit sound (R171). -/

namespace Sys2Proof.Machine

/-! ## The class written, item by item -/

section

variable {env : FaultEnv} {c : FaultClass} {old : AlertSetting} {x : FaultSide}

theorem FaultSide.mapWritten_released (released : (x.unit.record c).asserted = false) : x.mapWritten env c old = x :=
  if_pos released

/-- A write that changes no item of its class changes nothing. -/
theorem FaultSide.mapWritten_same (same : settingOf env.map c = old) : x.mapWritten env c old = x := by
  subst same
  unfold FaultSide.mapWritten
  cases masked : (settingOf env.map c).masked <;> cases release : (settingOf env.map c).release <;> simp [masked, release]

/-- The level of a masked class moved: it shows at neither. -/
theorem FaultSide.mapWritten_level_masked {l : Level} (level : settingOf env.map c = { old with level := l }) (masked : old.masked) :
    x.mapWritten env c old = x := by
  by_cases same : l = old.level
  · exact FaultSide.mapWritten_same (by rw [level, same])
  · simp [FaultSide.mapWritten, level, Ne.symm same, masked]

/-- The level of a shown class moved: it leaves the old level and joins the new one. -/
theorem FaultSide.mapWritten_level_moved {l : Level} (level : settingOf env.map c = { old with level := l })
    (asserted : (x.unit.record c).asserted) (unmasked : old.masked = false) (moved : l ≠ old.level) :
    x.mapWritten env c old = (x.levelRemove env old.level).levelAdd env l := by
  simp [FaultSide.mapWritten, level, moved.symm, asserted, unmasked]

/-- A shown class masked: it leaves its level, and a FOLLOW event is released at once (R162). -/
theorem FaultSide.mapWritten_masked (masks : settingOf env.map c = { old with masked := true })
    (asserted : (x.unit.record c).asserted) (unmasked : old.masked = false) :
    x.mapWritten env c old = if isFollowEvent env.map c then
        { x.levelRemove env old.level with unit := (x.levelRemove env old.level).unit.setAsserted c false }
      else x.levelRemove env old.level := by
  simp [FaultSide.mapWritten, masks, asserted, unmasked]

/-- An asserted class unmasked: it joins its level. -/
theorem FaultSide.mapWritten_unmasked (unmasks : settingOf env.map c = { old with masked := false })
    (asserted : (x.unit.record c).asserted) (masked : old.masked) : x.mapWritten env c old = x.levelAdd env old.level := by
  simp [FaultSide.mapWritten, unmasks, asserted, masked]

/-- A class set LATCHED keeps its mark. -/
theorem FaultSide.mapWritten_latched (latches : settingOf env.map c = { old with release := .latched }) :
    x.mapWritten env c old = x := by
  unfold FaultSide.mapWritten
  cases masked : old.masked <;> simp [latches, masked]

variable (follows : settingOf env.map c = { old with release := .follow })
include follows

/-- A condition set FOLLOW whose cause is present keeps its mark. -/
theorem FaultSide.mapWritten_follow_cause (kind : c.isCondition) (cause : (x.unit.record c).cause) : x.mapWritten env c old = x := by
  unfold FaultSide.mapWritten
  cases masked : old.masked <;> simp [follows, masked, kind, cause]

/-- A condition set FOLLOW whose cause is absent is released. -/
theorem FaultSide.mapWritten_follow_released (latched : old.release = .latched) (asserted : (x.unit.record c).asserted)
    (kind : c.isCondition) (cause : (x.unit.record c).cause = false) : x.mapWritten env c old = x.release env c := by
  unfold FaultSide.mapWritten
  cases masked : old.masked <;> simp [follows, latched, asserted, masked, kind, cause]

/-- An event set FOLLOW that shows waits for the next frame of its level (R162). -/
theorem FaultSide.mapWritten_follow_shown (kind : c.isCondition = false) (unmasked : old.masked = false) :
    x.mapWritten env c old = x := by
  simp [FaultSide.mapWritten, follows, unmasked, kind]

/-- A masked event set FOLLOW is released at once. -/
theorem FaultSide.mapWritten_follow_masked (latched : old.release = .latched) (asserted : (x.unit.record c).asserted)
    (kind : c.isCondition = false) (masked : old.masked) :
    x.mapWritten env c old = { x with unit := x.unit.setAsserted c false } := by
  simp [FaultSide.mapWritten, follows, latched, asserted, masked, kind]

end

/-! ## The shown masks under the new map -/

/-- What a level shows is a matter of the masked marks and levels of the asserted classes. -/
theorem shownMask_remap {map map' : List AlertSetting} {u : FaultUnit} {l : Level}
    (same : ∀ d, (u.record d).asserted → ((settingOf map' d).masked = false ∧ (settingOf map' d).level = l ↔
      (settingOf map d).masked = false ∧ (settingOf map d).level = l)) : shownMask map' u l = shownMask map u l := by
  refine List.filter_congr fun d _ => ?_
  cases asserted : (u.record d).asserted with
  | false => rfl
  | true =>
    rw [Bool.eq_iff_iff]
    simpa using same d asserted

/-- A write of the alert map reaches one item of one class (R138). -/
structure OneItem (map map' : List AlertSetting) (c : FaultClass) : Prop where
  others : ∀ d, d ≠ c → settingOf map' d = settingOf map d
  item : (∃ l, settingOf map' c = { settingOf map c with level := l }) ∨
    (∃ b, settingOf map' c = { settingOf map c with masked := b }) ∨ ∃ r, settingOf map' c = { settingOf map c with release := r }

section

variable {map map' : List AlertSetting} {c : FaultClass} {u : FaultUnit}

/-- A level at which neither map shows the class written shows what it did. -/
theorem shownMask_remap_other (others : ∀ d, d ≠ c → settingOf map' d = settingOf map d) {l : Level}
    (hidden : ¬((settingOf map c).masked = false ∧ (settingOf map c).level = l))
    (hidden' : ¬((settingOf map' c).masked = false ∧ (settingOf map' c).level = l)) : shownMask map' u l = shownMask map u l := by
  refine shownMask_remap fun d _ => ?_
  by_cases same : d = c
  · subst same
    exact iff_of_false hidden' hidden
  · rw [others d same]

theorem LevelSound.remap {l : Level} (sound : LevelSound map u l) (shown : shownMask map' u l = shownMask map u l) :
    LevelSound map' u l := by
  unfold LevelSound
  rw [shown]
  exact sound

/-- The levels stay sound under a new map that shows the same. -/
theorem FaultUnit.LevelsSound.remap (sound : u.LevelsSound map) (shown : ∀ l, shownMask map' u l = shownMask map u l) :
    u.LevelsSound map' := ⟨sound.classes, sound.levels, fun l => (sound.level l).remap (shown l)⟩

end

/-! ## The fault unit stays sound -/

section

variable {map : List AlertSetting} {env : FaultEnv} {c : FaultClass} {x : FaultSide} (sound : x.unit.Sound map)
  (others : ∀ d, d ≠ c → settingOf env.map d = settingOf map d)
include sound others

/-- Every condition is sound under the new map, where the class written keeps its release type. -/
theorem FaultUnit.Sound.condition_remap (release : (settingOf env.map c).release = (settingOf map c).release) (d : FaultClass) :
    ConditionSound env.map x.unit d := by
  by_cases same : d = c
  · subst same
    exact (sound.condition d).congr rfl rfl release
  · exact (sound.condition d).congr rfl rfl (by rw [others d same])

/-- A class that shows nowhere, or where it did, leaves the levels sound. -/
theorem FaultUnit.Sound.levels_remap (shown : (x.unit.record c).asserted → ∀ l,
    ((settingOf env.map c).masked = false ∧ (settingOf env.map c).level = l ↔
      (settingOf map c).masked = false ∧ (settingOf map c).level = l)) : x.unit.LevelsSound env.map :=
  sound.toLevelsSound.remap fun l => shownMask_remap fun d asserted => by
    by_cases same : d = c
    · subst same
      exact shown asserted l
    · rw [others d same]

theorem FaultUnit.Sound.mapWritten_level {l : Level} (level : settingOf env.map c = { settingOf map c with level := l }) :
    (x.mapWritten env c (settingOf map c)).unit.Sound env.map := by
  have conditions := sound.condition_remap others (by rw [level])
  cases asserted : (x.unit.record c).asserted with
  | false =>
    rw [FaultSide.mapWritten_released asserted]
    exact ⟨sound.levels_remap others fun on => absurd on (by simp [asserted]), conditions⟩
  | true =>
    cases masked : (settingOf map c).masked with
    | true =>
      rw [FaultSide.mapWritten_level_masked level masked]
      exact ⟨sound.levels_remap others fun _ k => by simp [level, masked], conditions⟩
    | false =>
      by_cases same : l = (settingOf map c).level
      · have unchanged : settingOf env.map c = settingOf map c := by rw [level, same]
        rw [FaultSide.mapWritten_same unchanged]
        exact ⟨sound.levels_remap others fun _ k => by rw [unchanged], conditions⟩
      · rw [FaultSide.mapWritten_level_moved level asserted masked same]
        obtain ⟨active, runs⟩ := (sound.level _).active (List.ne_nil_of_mem (mem_shownMask.2 ⟨asserted, masked, rfl⟩))
        refine ⟨FaultSide.levelAdd_levelsSound ?_ ?_ ?_ fun k other => ?_, fun d kind => ?_⟩
        · exact (FaultSide.levelRemove_length env).trans sound.classes
        · exact (FaultSide.levelRemove_levels_length env _ x).trans sound.levels
        · rw [FaultSide.shownMask_levelRemove]
          exact List.ne_nil_of_mem (mem_shownMask.2 ⟨asserted, by rw [level]; exact masked, by rw [level]⟩)
        · refine FaultSide.levelRemove_sound_at sound.levels active runs fun old => (sound.level k).remap ?_
          exact shownMask_remap_other others (fun at_k => old at_k.2.symm)
            (fun at_k => other (by rw [← at_k.2, level]))
        · have record := FaultSide.levelAdd_record env (x := x.levelRemove env (settingOf map c).level) (l := l)
            ((FaultSide.levelRemove_length env).trans sound.classes) d
          rw [FaultSide.levelRemove_record] at record
          exact (conditions d).congr (by simp [record, isFollowEvent, kind]) (by rw [record]) rfl kind

theorem FaultUnit.Sound.mapWritten_masked {b : Bool} (masked : settingOf env.map c = { settingOf map c with masked := b }) :
    (x.mapWritten env c (settingOf map c)).unit.Sound env.map := by
  have conditions := sound.condition_remap others (by rw [masked])
  by_cases same : b = (settingOf map c).masked
  · have unchanged : settingOf env.map c = settingOf map c := by rw [masked, same]
    rw [FaultSide.mapWritten_same unchanged]
    exact ⟨sound.levels_remap others fun _ k => by rw [unchanged], conditions⟩
  cases asserted : (x.unit.record c).asserted with
  | false =>
    rw [FaultSide.mapWritten_released asserted]
    exact ⟨sound.levels_remap others fun on => absurd on (by simp [asserted]), conditions⟩
  | true =>
    have elsewhere : ∀ k, k ≠ (settingOf map c).level → LevelSound env.map x.unit k := fun k other =>
      (sound.level k).remap (shownMask_remap_other others (fun at_k => other at_k.2.symm)
        (fun at_k => other (by rw [← at_k.2, masked])))
    cases before : (settingOf map c).masked with
    | false =>
      have set : b = true := by simpa [before] using same
      subst set
      have removed : (x.levelRemove env (settingOf map c).level).unit.Sound env.map := by
        obtain ⟨active, runs⟩ := (sound.level _).active (List.ne_nil_of_mem (mem_shownMask.2 ⟨asserted, before, rfl⟩))
        refine ⟨⟨(FaultSide.levelRemove_length env).trans sound.classes,
          (FaultSide.levelRemove_levels_length env _ x).trans sound.levels, fun k =>
            FaultSide.levelRemove_sound_at sound.levels active runs (elsewhere k)⟩, fun d => ?_⟩
        exact (conditions d).congr (by rw [FaultSide.levelRemove_record]) (by rw [FaultSide.levelRemove_record])
      rw [FaultSide.mapWritten_masked masked asserted before]
      split
      · rename_i follow
        have record := fun d => FaultUnit.record_setAsserted removed.classes c d false
        refine ⟨removed.toLevelsSound.congr (by simpa using removed.classes) rfl fun d unmasked => ?_, fun d kind => ?_⟩
        · rw [record, if_neg]
          rintro rfl
          simp [masked] at unmasked
        · have other : d ≠ c := by
            rintro rfl
            simp [isFollowEvent, kind] at follow
          exact (removed.condition d).congr (by rw [record, if_neg other]) (by rw [record, if_neg other]) rfl kind
      · exact removed
    | true =>
      have cleared : b = false := by simpa [before] using same
      subst cleared
      rw [FaultSide.mapWritten_unmasked masked asserted before]
      refine ⟨FaultSide.levelAdd_levelsSound sound.classes sound.levels ?_ elsewhere, fun d kind => ?_⟩
      · exact List.ne_nil_of_mem (mem_shownMask.2 ⟨asserted, by rw [masked], by rw [masked]⟩)
      · have record := FaultSide.levelAdd_record env (l := (settingOf map c).level) sound.classes d
        exact (conditions d).congr (by simp [record, isFollowEvent, kind]) (by rw [record]) rfl kind

theorem FaultUnit.Sound.mapWritten_release {r : ReleaseType} (release : settingOf env.map c = { settingOf map c with release := r }) :
    (x.mapWritten env c (settingOf map c)).unit.Sound env.map := by
  have levels : x.unit.LevelsSound env.map := sound.levels_remap others fun _ k => by rw [release]
  have elsewhere : ∀ d, d ≠ c → ConditionSound env.map x.unit d := fun d other =>
    (sound.condition d).congr rfl rfl (by rw [others d other])
  have stands (own : ConditionSound env.map x.unit c) : x.unit.Sound env.map := ⟨levels, fun d => by
    by_cases same : d = c
    · subst same
      exact own
    · exact elsewhere d same⟩
  cases r with
  | latched =>
    rw [FaultSide.mapWritten_latched release]
    exact stands fun kind => ⟨(sound.condition c kind).1, fun _ follow => by simp [release] at follow⟩
  | follow =>
    cases before : (settingOf map c).release with
    | follow =>
      have unchanged : settingOf env.map c = settingOf map c := by rw [release, ← before]
      rw [FaultSide.mapWritten_same unchanged]
      exact stands ((sound.condition c).congr rfl rfl (by rw [unchanged]))
    | latched =>
      cases asserted : (x.unit.record c).asserted with
      | false =>
        rw [FaultSide.mapWritten_released asserted]
        exact stands fun kind => ⟨(sound.condition c kind).1, fun on => absurd on (by simp [asserted])⟩
      | true =>
        cases kind : c.isCondition with
        | true =>
          cases cause : (x.unit.record c).cause with
          | true =>
            rw [FaultSide.mapWritten_follow_cause release kind cause]
            exact stands fun _ => ⟨fun _ => asserted, fun _ _ => cause⟩
          | false =>
            rw [FaultSide.mapWritten_follow_released release before asserted kind cause]
            exact ⟨levels.release c, FaultSide.release_conditionSound sound.classes c (fun _ => cause) elsewhere⟩
        | false =>
          have event : ∀ u : FaultUnit, ConditionSound env.map u c := fun _ on => absurd on (by simp [kind])
          cases masked : (settingOf map c).masked with
          | false =>
            rw [FaultSide.mapWritten_follow_shown release kind masked]
            exact stands (event _)
          | true =>
            rw [FaultSide.mapWritten_follow_masked release before asserted kind masked]
            have record := fun d => FaultUnit.record_setAsserted sound.classes c d false
            refine ⟨levels.congr (by simpa using sound.classes) rfl fun d unmasked => ?_, fun d => ?_⟩
            · rw [record, if_neg]
              rintro rfl
              simp [release, masked] at unmasked
            · by_cases same : d = c
              · subst same
                exact event _
              · exact (elsewhere d same).congr (by rw [record, if_neg same]) (by rw [record, if_neg same])

end

/-- A write of one item of the alert map keeps the fault unit sound under the map written. -/
theorem FaultUnit.Sound.mapWritten {map : List AlertSetting} {env : FaultEnv} {c : FaultClass} {x : FaultSide}
    (sound : x.unit.Sound map) (change : OneItem map env.map c) : (x.mapWritten env c (settingOf map c)).unit.Sound env.map := by
  rcases change.item with ⟨_, level⟩ | ⟨_, masked⟩ | ⟨_, release⟩
  · exact sound.mapWritten_level change.others level
  · exact sound.mapWritten_masked change.others masked
  · exact sound.mapWritten_release change.others release

end Sys2Proof.Machine
end

section
/-! The capture record under the operations of the fault unit: once locked it keeps what it captured, and its extra count never falls
(R165, R166). -/

namespace Sys2Proof.Machine

/-- A locked capture record stays locked with what it captured; its multiple flag stays set and its extra count does not fall. The
bound of the extra count stands with it, so that the relation chains. -/
def CaptureStands (before after : Option Capture) : Prop :=
  ∀ r, before = some r → ∃ m x, after = some { r with multiple := m, extra := x } ∧ (r.multiple → m) ∧
    (r.extra ≤ 255 → r.extra ≤ x ∧ x ≤ 255)

theorem CaptureStands.of_eq {a b : Option Capture} (same : b = a) : CaptureStands a b := by
  rintro r rfl
  exact ⟨r.multiple, r.extra, same, id, fun bound => ⟨le_rfl, bound⟩⟩

theorem CaptureStands.trans {a b c : Option Capture} (h : CaptureStands a b) (h' : CaptureStands b c) : CaptureStands a c := by
  intro r locked
  obtain ⟨m, x, e, multiple, extra⟩ := h r locked
  obtain ⟨m', x', e', multiple', extra'⟩ := h' _ e
  refine ⟨m', x', e', multiple' ∘ multiple, fun bound => ?_⟩
  obtain ⟨up, low⟩ := extra bound
  exact ⟨up.trans (extra' low).1, (extra' low).2⟩

/-- An occurrence captured when the record is locked is a multiple, counted to at most 255 (R166). -/
theorem FaultUnit.take_stands (u : FaultUnit) (env : FaultEnv) (c : FaultClass) (source : Source) (value : Half) :
    CaptureStands u.capture (u.take env c source value).capture := by
  intro r locked
  refine ⟨true, min (r.extra + 1) 255, ?_, fun _ => rfl, fun bound => ⟨by omega, by omega⟩⟩
  simp [FaultUnit.take, locked]

/-- What leaves the ledger leaves the capture record. -/
theorem CaptureStands.of_ledger {u v : FaultUnit} (same : v.ledger = u.ledger) : CaptureStands u.capture v.capture :=
  .of_eq (FaultUnit.ledger_eq same).1

section

variable (env : FaultEnv) (x : FaultSide)

theorem FaultSide.occur_stands (c : FaultClass) (source : Source) (value : Half) :
    CaptureStands x.unit.capture (x.occur env c source value).unit.capture :=
  (x.unit.take_stands env c source value).trans (.of_ledger (x.occur_ledger env c source value))

theorem FaultSide.takeHandOff_stands (h : HandOff) : CaptureStands x.unit.capture (x.takeHandOff env h).unit.capture := by
  cases h with
  | event c source value => exact x.occur_stands env c source value
  | present c source value =>
    simp only [FaultSide.takeHandOff]
    split
    · exact .of_eq rfl
    · exact (x.marked c source value).occur_stands env c source value
  | absent c =>
    simp only [FaultSide.takeHandOff]
    split
    · split
      · exact .of_ledger (FaultSide.release_ledger env c (x.cleared c))
      · exact .of_eq rfl
    · exact .of_eq rfl

theorem FaultSide.takeAll_stands (hs : List HandOff) : CaptureStands x.unit.capture (x.takeAll env hs).unit.capture := by
  unfold FaultSide.takeAll
  induction hs generalizing x with
  | nil => exact .of_eq rfl
  | cons h hs ih => exact (x.takeHandOff_stands env h).trans (ih _)

theorem FaultSide.acknowledge_stands (number : Nat) : CaptureStands x.unit.capture (x.acknowledge env number).1.unit.capture := by
  rcases x.acknowledge_cases env number with e | ⟨c, -, ⟨-, e⟩ | ⟨-, e⟩⟩ <;> rw [e]
  · exact .of_eq rfl
  · exact (x.unit.take_stands env c _ _).trans (.of_eq (FaultUnit.ledger_eq (FaultSide.reassert_ledger env)).1)
  · exact .of_eq (FaultUnit.ledger_eq (FaultSide.release_ledger env c x.acknowledged)).1

theorem FaultSide.resyncLevel_ledger (l : Level) : (x.resyncLevel env l).unit.ledger = x.unit.ledger := by
  unfold FaultSide.resyncLevel
  split <;> exact FaultSide.emit_ledger env l _

theorem FaultSide.resync_ledger : (x.resync env).unit.ledger = x.unit.ledger :=
  (((FaultSide.resyncLevel_ledger env _ 0).trans (FaultSide.resyncLevel_ledger env _ 1)).trans
    (FaultSide.resyncLevel_ledger env _ 2)).trans (x.resyncLevel_ledger env 3)

theorem FaultSide.repeatExpiry_ledger (l : Level) : (x.repeatExpiry env l).unit.ledger = x.unit.ledger := by
  by_cases idle : (x.unit.level l).phase = .idle
  · rw [FaultSide.repeatExpiry_idle env idle]
  · rw [FaultSide.repeatExpiry_eq env idle, FaultSide.resyncLevel_ledger]

/-- A write of the alert map raises no occurrence and releases without acknowledgement (R171). -/
theorem FaultSide.mapWritten_ledger (c : FaultClass) (old : AlertSetting) :
    (x.mapWritten env c old).unit.ledger = x.unit.ledger := by
  have removed : ∀ l, (x.levelRemove env l).unit.ledger = x.unit.ledger := fun _ => FaultSide.levelRemove_ledger env
  unfold FaultSide.mapWritten
  simp only
  split
  · rfl
  · split
    · split
      · rfl
      · exact (FaultSide.levelAdd_ledger env _ _).trans (removed _)
    · split
      · split <;> exact removed _
      · split
        · exact FaultSide.levelAdd_ledger env _ _
        · split
          · split
            · split
              · rfl
              · exact FaultSide.release_ledger env c x
            · split <;> rfl
          · rfl

end

end Sys2Proof.Machine
end

section
/-! Every step moves the fault unit by the hand-offs of the owners, acknowledgements, writes of the alert map, repeats and
resynchronisations alone; a reset and the clearing of the capture record stand apart. -/

namespace Sys2Proof.Machine

/-! ## The moves of the fault unit -/

/-- The fault unit and the alert map it reads. -/
def State.faultCore (s : State) : FaultUnit × List AlertSetting := (s.faults, s.store.chassis.alertMap)

/-- What can move the fault unit, one constructor for each operation, closed under chaining. -/
inductive FaultMoves : State → State → Prop
  | same {s t : State} : t.faultCore = s.faultCore → FaultMoves s t
  | trans {s t u : State} : FaultMoves s t → FaultMoves t u → FaultMoves s u
  /-- One hand-off (R158, R159). -/
  | handOff (s : State) {h : HandOff} : h.Proper → FaultMoves s (s.handOff h)
  /-- The hand-offs of one event (R159). -/
  | handOffs (s : State) {hs : List HandOff} : (∀ h ∈ hs, h.Proper) → FaultMoves s (s.handOffs hs)
  /-- ACK ALERT (R163). -/
  | acknowledge (s : State) (number : Nat) : FaultMoves s (s.acknowledgeAt number).state
  /-- An accepted write of a chassis setting, of the alert map or another (R133, R171). -/
  | settingWritten {s : State} {i : ChassisItem} {v : Half} {d : Chassis} : s.store.chassis.write i v = some d →
      FaultMoves s ((s.withChassis d).alertMapWritten i s.store.chassis)
  /-- A repeat timer's expiry (R169). -/
  | repeatExpiry (s : State) (l : Level) : FaultMoves s (s.withFaultSide (s.faultSide.repeatExpiry s.faultEnv l))
  /-- The frames of Port A's recovery (R172). -/
  | resync (s : State) : FaultMoves s (s.withFaultSide (s.faultSide.resync s.faultEnv))

/-- The capture record alone is emptied (R166). -/
def State.CaptureCleared (s t : State) : Prop := t.faultCore = ({ s.faults with capture := none }, s.store.chassis.alertMap)

/-! ## The hand-offs of the owners are proper (R157) -/

/-- A moved stream hands over causes, present or absent (R23). -/
theorem State.moveStream_proper (s : State) (i : StreamId) (source : Source) (r : StreamRecord) :
    ∀ h ∈ (s.moveStream i source r).2, h.Proper := by
  have streams : ∀ s : State, ∀ h ∈ s.streamHandOffs i source, h.Proper := by
    intro s h m
    unfold State.streamHandOffs at m
    repeat' split at m
    all_goals simp only [List.mem_singleton, List.not_mem_nil] at m
    all_goals subst m; trivial
  have lost : ∀ s : State, ∀ h ∈ s.lossHandOffs, h.Proper := by
    intro s h m
    unfold State.lossHandOffs at m
    split at m
    · rw [List.mem_singleton.1 m]
      trivial
    · exact nomatch m
  have left : ∀ s : State, ∀ h ∈ s.leaveHandOffs i, h.Proper := by
    intro s h m
    cases i with
    | inertial =>
      rcases List.mem_cons.1 m with rfl | m
      · trivial
      · exact lost s h m
    | wheelFront | wheelRear => exact lost s h m
    | torqueRequest | riderSelect => exact nomatch m
  intro h m
  unfold State.moveStream at m
  simp only at m
  split at m
  · rcases List.mem_append.1 m with m | m
    · exact streams _ h m
    · exact left _ h m
  · split at m
    · exact streams _ h m
    · exact nomatch m

/-- A rejected frame is an occurrence of SIGNAL_IMPLAUSIBLE or SEQUENCE_ERROR, both events (R12, R14). -/
theorem judge_rejects_event {c : Chassis} {i : StreamId} {r : StreamRecord} {e : RouteFields} {f : Frame} {cls : FaultClass}
    {value : Half} (rejected : judge c i r e f = .rejected cls value) : cls.isCondition = false := by
  have signals : ∀ b, judgeSignals c i r f.data b = .rejected cls value → cls.isCondition = false := by
    intro b rejected
    unfold judgeSignals at rejected
    simp only at rejected
    split at rejected
    · cases rejected; rfl
    · exact nomatch rejected
  unfold judge at rejected
  split at rejected
  · cases rejected; rfl
  · split at rejected
    · exact signals _ rejected
    · split at rejected
      · cases rejected; rfl
      · split at rejected
        · exact signals _ rejected
        · split at rejected
          · exact nomatch rejected
          · exact signals _ rejected

/-- A commit hands GOVERN_DEGRADED over (R110, R117). -/
theorem commitHandOffs_proper (before after : Governor) : ∀ h ∈ commitHandOffs before after, h.Proper := by
  intro h m
  unfold commitHandOffs at m
  repeat' split at m
  all_goals simp only [List.mem_singleton, List.not_mem_nil] at m
  all_goals subst m; trivial

theorem restartHandOffs_proper : ∀ h ∈ restartHandOffs, h.Proper := by
  intro h m
  simp only [restartHandOffs, List.mem_cons, List.not_mem_nil, or_false] at m
  rcases m with rfl | rfl | rfl | rfl <;> trivial

/-- The hand-offs that the floods of a window expiry owe (R9, R20). -/
theorem floods_proper (xs : List (Nat × RouteEntry)) {acc : State × List HandOff} (proper : ∀ h ∈ acc.2, h.Proper) :
    ∀ h ∈ (xs.foldl floodEntry acc).2, h.Proper := by
  induction xs generalizing acc with
  | nil => exact proper
  | cons x xs ih =>
    refine ih fun h m => ?_
    unfold floodEntry at m
    simp only at m
    split at m
    · rcases List.mem_append.1 m with m | m
      · exact proper h m
      · rw [List.mem_singleton.1 m]
        rfl
    · rcases List.mem_append.1 m with m | m
      · exact proper h m
      · rcases List.mem_cons.1 m with rfl | m
        · rfl
        · exact State.moveStream_proper _ _ _ _ h m

namespace FaultMoves

theorem refl (s : State) : FaultMoves s s := same rfl

/-- A move after an update that leaves the core as it is. -/
theorem after {s t u : State} (m : FaultMoves t u) (h : t.faultCore = s.faultCore) : FaultMoves s u := (same h).trans m

/-- A move before an update that leaves the core as it is. -/
theorem before {s t u : State} (m : FaultMoves s t) (h : u.faultCore = t.faultCore) : FaultMoves s u := m.trans (same h)

/-- An update under a condition moves what the update moves. -/
theorem ite {c : Prop} [Decidable c] {s t : State} (m : FaultMoves s t) : FaultMoves s (if c then t else s) := by
  split
  · exact m
  · exact refl s

/-! ## What leaves the fault unit -/

theorem offer (s : State) (p : PortId) (q : PlainQueue) (f : Frame) : FaultMoves s (s.offer p q f) :=
  same (by simp [State.faultCore])

theorem setPort (s : State) (p : PortId) (x : Port) : FaultMoves s (s.setPort p x) := same (by simp [State.faultCore])

theorem arbitrate (s : State) (p : PortId) : FaultMoves s (s.arbitrate p) := setPort s p _

theorem choose (s : State) : FaultMoves s s.choose := same (by simp [State.faultCore])

theorem finishJob (s : State) : FaultMoves s s.finishJob := same (by simp [State.faultCore])

theorem finishVoid (s : State) (ceiling : Bool) : FaultMoves s (s.finishVoid ceiling) := after (finishJob _) rfl

theorem reply (s : State) (x : Sender) (code tag : Byte) (r : Result) (data : List Byte) : FaultMoves s (s.reply x code tag r data) :=
  same rfl

theorem answer (s : State) (h : HeldRequest) (late : Bool) : FaultMoves s (s.answer h late) := same (by rw [State.answer_eq]; rfl)

theorem askCeiling (s : State) : FaultMoves s s.askCeiling := by
  rcases s.askCeiling_cases with ⟨e, -⟩ | ⟨-, -, e⟩ <;> rw [e]
  · exact refl s
  · exact after (choose _) rfl

theorem forwardFrame (s : State) (index : Nat) (p : PortId) (e : RouteFields) (f : Frame) :
    FaultMoves s (s.forwardFrame index p e f) := by
  unfold State.forwardFrame
  split
  · exact refl s
  · exact after (offer _ _ _ _) rfl
  · exact after (offer _ _ _ _) rfl

theorem unknownFrame (s : State) (p : PortId) (f : Frame) : FaultMoves s (s.unknownFrame p f) := by
  have counted : ∀ g, FaultMoves s (s.countUnknown p g) := fun g => same (by simp [State.faultCore])
  unfold State.unknownFrame
  split
  · exact counted _
  · exact (counted _).trans (offer _ _ _ _)
  · exact (counted _).trans (offer _ _ _ _)

/-! ## The owners' answers that leave the fault unit -/

theorem writePage (s : State) (page table index v : Nat) : FaultMoves s (s.writePage page table index v).state := by
  unfold State.writePage
  repeat' split
  all_goals exact same rfl

theorem unsealPageAt (s : State) (page : Nat) : FaultMoves s (s.unsealPageAt page).state := by
  unfold State.unsealPageAt
  repeat' split
  all_goals exact same rfl

theorem mapPageAt (s : State) (slot expected new : Nat) : FaultMoves s (s.mapPageAt slot expected new).state := by
  unfold State.mapPageAt
  simp only
  repeat' split
  all_goals exact same rfl

theorem writeRoute (s : State) (entry field v : Nat) : FaultMoves s (s.writeRoute entry field v).state := by
  unfold State.writeRoute
  repeat' split
  all_goals exact same rfl

theorem enableRouteAt (s : State) (entry : Nat) : FaultMoves s (s.enableRouteAt entry).state := by
  unfold State.enableRouteAt
  repeat' split
  all_goals exact same rfl

theorem setMonitor (s : State) (value : Nat) : FaultMoves s (s.setMonitor value).state := by
  unfold State.setMonitor
  split <;> exact same rfl

/-! ## Streams and received frames -/

theorem moveStream (s : State) (i : StreamId) (source : Source) (r : StreamRecord) : FaultMoves s (s.moveStream i source r).1 :=
  same (by simp [State.faultCore])

/-- A moved stream and what it hands over, with what is raised at the same event (R23, R159). -/
theorem moved (s : State) (i : StreamId) (source : Source) (r : StreamRecord) {raised : List HandOff}
    (proper : ∀ h ∈ raised, h.Proper) :
    FaultMoves s ((s.moveStream i source r).1.handOffs (raised ++ (s.moveStream i source r).2)) :=
  (moveStream s i source r).trans (handOffs _ fun h m => (List.mem_append.1 m).elim (proper h) (s.moveStream_proper i source r h))

theorem windowExpiry (s : State) : FaultMoves s s.windowExpiry := by
  have told : ∀ (xs : List (Nat × RouteEntry)) (acc : State × List HandOff), FaultMoves acc.1 (xs.foldl floodEntry acc).1 := by
    intro xs
    induction xs with
    | nil => exact fun acc => refl _
    | cons x xs ih =>
      intro acc
      refine FaultMoves.trans ?_ (ih _)
      unfold floodEntry
      simp only
      split
      · exact refl _
      · exact moveStream _ _ _ _
  unfold State.windowExpiry
  refine FaultMoves.trans ?_ (handOffs _ (floods_proper _ (acc := (_, [])) nofun))
  exact after (told _ (_, [])) rfl

/-- A sample joins the queue, and a full queue is told as an overrun (R38, R39). -/
theorem joinSample (s : State) (x : Sample) : FaultMoves s (s.joinSample x) := by
  have room : FaultMoves s s.makeRoom := by
    unfold State.makeRoom
    split
    · split
      · exact after (handOff _ (by exact rfl)) rfl
      · exact refl s
    · exact refl s
  exact (room.before (u := s.makeRoom.appendSample x) rfl).trans (after (choose _) rfl)

theorem dispatch (s : State) (i : StreamId) (index : Nat) (e : RouteFields) (f : Frame) (v : Values) :
    FaultMoves s (s.dispatch i index e f v) := by
  cases v with
  | inertial roll yaw lateral => exact ite (joinSample s _)
  | speed v => exact refl s
  | torque t clamped => exact after (askCeiling _) rfl
  | selection mode load traction => exact ite (same rfl)

theorem supervise (s : State) (i : StreamId) (index : Nat) (p : PortId) (e : RouteFields) (f : Frame) :
    FaultMoves s (s.supervise i index p e f) := by
  unfold State.supervise
  split
  · rename_i cls value rejected
    refine after (moved (s.countRoute index RouteCounts.reject) i (.route index) (s.stream i).reject
      (raised := [.event cls (.route index) value]) fun h m => ?_) rfl
    rw [List.mem_singleton.1 m]
    exact judge_rejects_event rejected
  · exact same rfl
  · rename_i v sequenceError _
    have recorded : FaultMoves s (s.recordAccepted i index e f v sequenceError) := by
      refine after (moved (s.countRoute index (·.accept sequenceError v.isClamped)) i (.route index) _ fun h m => ?_) rfl
      split at m
      · rw [List.mem_singleton.1 m]
        rfl
      · exact nomatch m
    refine (recorded.trans (dispatch _ i index e f v)).trans ?_
    unfold State.acceptFrame State.forwardConsumed
    split
    · exact refl _
    · exact forwardFrame _ _ _ _ _

/-! ## Commands -/

/-- An answer is sent as a reply, which leaves the fault unit (R179). -/
theorem answered {s : State} {a : Answer} (m : FaultMoves s a.state) (x : Sender) (code tag : Byte) :
    FaultMoves s (a.send x code tag) := m.trans (reply _ _ _ _ _ _)

/-- A command behind the standstill gate moves what its owner moves (R177). -/
theorem gated {s : State} {code tag : Byte} {run : State → State} (m : FaultMoves s (run s)) :
    FaultMoves s (s.gated code tag run) := by
  unfold State.gated
  split
  · exact m
  · exact same rfl

theorem sealPageAt (s : State) (tag page : Byte) : FaultMoves s (s.sealPageAt tag page) := by
  unfold State.sealPageAt
  split
  · exact after (choose _) rfl
  · exact reply _ _ _ _ _ _

theorem disableRouteAt (s : State) (entry : Nat) : FaultMoves s (s.disableRouteAt entry).state := by
  have disabled : FaultMoves s (s.disableEnabled entry) := by
    unfold State.disableEnabled
    simp only
    split
    · exact same rfl
    · exact after (moved _ _ _ _ (raised := []) nofun) rfl
  unfold State.disableRouteAt
  split
  · exact refl s
  · split
    · exact disabled
    · exact refl s
    · exact same rfl

theorem writeChassis (s : State) (n : Nat) (v : Half) : FaultMoves s (s.writeChassis n v).state := by
  cases known : chassisItem n with
  | none =>
    rw [s.writeChassis_unknown known]
    exact refl s
  | some i =>
    cases written : s.store.chassis.write i v with
    | none =>
      rw [s.writeChassis_refused known written]
      exact refl s
    | some d =>
      rw [s.writeChassis_done known written]
      exact settingWritten written

theorem restart (s : State) : FaultMoves s s.restart := after (handOffs _ restartHandOffs_proper) rfl

/-- Every command that the command unit runs but CLEAR CAPTURE moves the fault unit by these moves (R178). -/
theorem runCommand (s : State) {c : Instr} (other : ∀ tag, c ≠ .clearCapture tag) : FaultMoves s (s.runCommand c) := by
  cases c with
  | writePageEntry tag page table index value =>
    unfold State.runCommand State.runWritePage
    exact gated (answered (writePage s _ _ _ _) _ _ _)
  | sealPage tag page =>
    unfold State.runCommand State.runSealPage
    exact gated (sealPageAt s tag page)
  | unsealPage tag page =>
    unfold State.runCommand State.runUnsealPage
    exact gated (answered (unsealPageAt s _) _ _ _)
  | mapPage tag slot expected new =>
    unfold State.runCommand State.runMapPage
    exact gated (answered (mapPageAt s _ _ _) _ _ _)
  | writeRouteField tag entry field value =>
    unfold State.runCommand State.runWriteRoute
    exact gated (answered (writeRoute s _ _ _) _ _ _)
  | enableRoute tag entry =>
    unfold State.runCommand State.runEnableRoute
    exact gated (answered (enableRouteAt s _) _ _ _)
  | disableRoute tag entry =>
    unfold State.runCommand State.runDisableRoute
    exact gated (answered (disableRouteAt s _) _ _ _)
  | writeChassisSetting tag item value =>
    unfold State.runCommand State.runWriteChassis
    exact gated (answered (writeChassis s _ _) _ _ _)
  | restartGovernor tag =>
    unfold State.runCommand State.runRestart
    exact gated ((restart s).trans (reply _ _ _ _ _ _))
  | monitorOnOff tag value => exact answered (setMonitor s _) _ _ _
  | clearCapture tag => exact absurd rfl (other tag)
  | ackAlert sender tag cls => exact answered (acknowledge s _) _ _ _
  | readPageEntry tag page table index => exact answered (by rw [State.state_readPage]; exact refl s) _ _ _
  | readRouteField tag entry field => exact answered (by rw [State.state_readRoute]; exact refl s) _ _ _
  | readChassisSetting tag item => exact answered (by rw [State.state_readChassis]; exact refl s) _ _ _
  | readState sender tag item selector part => exact answered (by rw [State.state_readItem]; exact refl s) _ _ _
  | readCounter tag block selector counter => exact answered (by rw [State.state_readCount]; exact refl s) _ _ _
  | readCapture sender tag => exact (reply s _ _ _ _ _).trans (reply _ _ _ _ _ _)
  | _ => exact refl s

/-! ## The ends of an attempt, recovery and expiries -/

theorem transmitSuccess (s : State) (p : PortId) : FaultMoves s (s.transmitSuccess p) := by
  unfold State.transmitSuccess
  simp only
  refine FaultMoves.trans ?_ (arbitrate _ p)
  split
  · exact (setPort s p _).trans (handOff _ trivial)
  · exact setPort s p _

theorem giveUpFrame (s : State) (p : PortId) : FaultMoves s (s.giveUpFrame p) := by
  unfold State.giveUpFrame
  simp only
  refine FaultMoves.trans ?_ (arbitrate _ p)
  split
  · exact (setPort s p _).trans (handOff _ trivial)
  · exact setPort s p _

theorem transmitFailure (s : State) (p : PortId) (f : SlotFrame) : FaultMoves s (s.transmitFailure p f) := by
  unfold State.transmitFailure
  simp only
  split
  · exact (setPort s p _).trans (handOff _ trivial)
  · split
    · exact setPort s p _
    · exact (setPort s p _).trans (giveUpFrame _ p)

theorem recoverPort (s : State) (p : PortId) : FaultMoves s (s.recoverPort p) := by
  have told : FaultMoves s (s.backInService p) := (setPort s p _).trans (handOff _ trivial)
  cases p with
  | a =>
    rw [s.recoverPort_a]
    exact told.trans (resync _)
  | b => exact told

theorem expireHold (s : State) : FaultMoves s s.expireHold := by
  rcases s.expireHold_cases with ⟨-, e⟩ | ⟨-, r, -, e⟩ <;> rw [e]
  · exact refl s
  · exact (answer s r true).trans (handOff _ rfl)

/-! ## Completions -/

theorem leanCompletion {s t : State} (e : exec .leanCompletion s = .next t) : FaultMoves s t := by
  cases e
  split
  · rename_i n isVoid _
    split
    · exact finishVoid s false
    · have told : FaultMoves s (s.leanTold n) := by
        refine after (handOff _ ?_) rfl
        unfold State.saturationHandOff
        split <;> trivial
      rw [State.leanHandOff_eq]
      exact (told.before (by simp [State.faultCore])).trans (finishJob _)
  · exact refl s

theorem ceilingCompletion {s t : State} (e : exec .ceilingCompletion s = .next t) : FaultMoves s t := by
  cases e
  split
  · rename_i n isVoid _
    split
    · exact finishVoid s true
    · have committed : FaultMoves s (s.evaluated n) := after (handOffs _ (commitHandOffs_proper _ _)) rfl
      rw [State.ceilingHandOff_parts]
      refine FaultMoves.trans ?_ (finishJob _)
      rcases (s.evaluated n).answerAtCompletion_cases with ⟨r, -, e⟩ | ⟨-, e⟩ <;> rw [e]
      · exact committed.trans (answer _ r false)
      · exact committed
  · exact refl s

theorem sealStepCompletion {s t : State} (e : exec .sealStepCompletion s = .next t) : FaultMoves s t := by
  have recorded : ∀ r n, FaultMoves s (s.recordStep r n) := by
    intro r n
    unfold State.recordStep
    split
    · exact same rfl
    · split
      · exact after (choose _) rfl
      · exact same rfl
  cases e
  split
  · exact (recorded _ _).trans (finishJob _)
  · exact refl s

end FaultMoves

/-! ## The clearing of the capture record (R166), and every step -/

theorem State.runCommand_clearCapture (s : State) (tag : Byte) : s.CaptureCleared (s.runCommand (.clearCapture tag)) := rfl

/-- The code of CLEAR CAPTURE (R189). -/
theorem commandOf_clearCapture {sender : Sender} {data : List Byte} {tag : Byte}
    (named : commandOf sender data = some (.clearCapture tag)) : dataByte data 0 = 0x0B := by
  unfold commandOf at named
  simp only at named
  split at named
  case h_11 code => exact BitVec.eq_of_toNat_eq code
  all_goals exact nomatch named

/-- The command unit takes a frame: it moves the fault unit, or the frame is CLEAR CAPTURE and empties the record (R175). -/
theorem State.takeCommandFrame_faults (s : State) (sender : Sender) (data : List Byte) :
    FaultMoves s (s.takeCommandFrame sender data) ∨
      (dataByte data 0 = 0x0B ∧ s.CaptureCleared (s.takeCommandFrame sender data)) := by
  unfold State.takeCommandFrame State.runFrame
  simp only
  split
  · exact .inl (.same rfl)
  · split
    · exact .inl (.same rfl)
    · split
      · rename_i c named
        by_cases clears : ∃ tag, c = .clearCapture tag
        · obtain ⟨tag, rfl⟩ := clears
          exact .inr ⟨commandOf_clearCapture named, (s.countTaken sender).runCommand_clearCapture tag⟩
        · exact .inl (.after (.runCommand (s.countTaken sender) fun tag e => clears ⟨tag, e⟩) rfl)
      · exact .inl (.same rfl)

theorem State.treat_faults (s : State) (index : Nat) (p : PortId) (e : RouteFields) (f : Frame) :
    FaultMoves s (s.treat index p e f) ∨ (dataByte f.data 0 = 0x0B ∧ s.CaptureCleared (s.treat index p e f)) := by
  unfold State.treat
  split
  · exact .inl (.supervise s _ _ _ _ _)
  · exact .inl (.supervise s _ _ _ _ _)
  · exact .inl (.supervise s _ _ _ _ _)
  · exact .inl (.supervise s _ _ _ _ _)
  · exact .inl (.supervise s _ _ _ _ _)
  · exact s.takeCommandFrame_faults _ _
  · exact s.takeCommandFrame_faults _ _
  · exact .inl (.forwardFrame s _ _ _ _)

theorem State.receivedFrame_faults {s t : State} {p : PortId} {f : Frame} (e : exec (.receivedFrame p f) s = .next t) :
    FaultMoves s t ∨ (dataByte f.data 0 = 0x0B ∧ s.CaptureCleared t) := by
  cases e
  split
  · exact .inl (.setPort s p _)
  split
  · exact .inl ((FaultMoves.setPort s p _).trans (.handOff _ rfl))
  have core : (s.setPort p (s.port p).countDelivered).faultCore = s.faultCore := by simp [State.faultCore]
  unfold State.deliver State.matchedFrame
  split
  · rename_i index _
    split
    · rcases ((s.setPort p (s.port p).countDelivered).modifyRoute index RouteEntry.countAdmitted).treat_faults index p
        ((s.setPort p (s.port p).countDelivered).route index).fields f with moves | ⟨code, cleared⟩
      · exact .inl (.after moves core)
      · obtain ⟨faults, map⟩ := Prod.mk.inj core
        refine .inr ⟨code, cleared.trans ?_⟩
        rw [← faults, ← map]
        rfl
    · exact .inl (.same core)
  · exact .inl (.after (.unknownFrame _ p f) core)

/-- A command that may empty the capture record: CLEAR CAPTURE, or a frame with its code (R166, R175). -/
def Instr.MayClear (c : Instr) : Prop := (∃ tag, c = .clearCapture tag) ∨ ∃ p f, c = .receivedFrame p f ∧ dataByte f.data 0 = 0x0B

/-- Every command moves the fault unit, is the power-on reset, or empties the capture record. -/
theorem State.exec_faults {c : Instr} {s t : State} (e : exec c s = .next t) :
    FaultMoves s t ∨ (c = .powerOnReset ∧ t.faultCore = State.reset.faultCore) ∨ (Instr.MayClear c ∧ s.CaptureCleared t) := by
  cases c with
  | powerOnReset => cases e; exact .inr (.inl ⟨rfl, rfl⟩)
  | receivedFrame p f =>
    rcases State.receivedFrame_faults e with moves | ⟨code, cleared⟩
    · exact .inl moves
    · exact .inr (.inr ⟨.inr ⟨p, f, rfl, code⟩, cleared⟩)
  | clearCapture tag =>
    cases e
    exact .inr (.inr ⟨.inl ⟨tag, rfl⟩, (s.countTaken .service).runCommand_clearCapture tag⟩)
  | policingWindowExpiry => cases e; exact .inl (.ite (.windowExpiry s))
  | staleExpiry i => cases e; exact .inl (.ite (.same (by simp [State.faultCore])))
  | lostExpiry i => cases e; exact .inl (.ite (.moved s i _ _ (raised := []) nofun))
  | jobStart => cases e; exact .inl (.choose s)
  | leanCompletion => exact .inl (.leanCompletion e)
  | ceilingCompletion => exact .inl (.ceilingCompletion e)
  | sealStepCompletion => exact .inl (.sealStepCompletion e)
  | holdExpiry => cases e; exact .inl (.expireHold s)
  | startTimerExpiry => cases e; exact .inl (.ite (.after (.handOff _ trivial) rfl))
  | transmitArbiterChoice p => cases e; exact .inl (.arbitrate s p)
  | transmitSuccess p =>
    cases e
    split
    · exact .inl (.transmitSuccess s p)
    · exact .inl (.refl s)
  | transmitFailure p =>
    cases e
    split
    · exact .inl (.transmitFailure s p _)
    · exact .inl (.refl s)
  | recoveryTimerExpiry p => cases e; exact .inl (.ite (.recoverPort s p))
  | repeatTimerExpiry l => cases e; exact .inl (.ite (.repeatExpiry s l))
  | timeBaseAdvance => cases e; exact .inl (.same rfl)
  | _ =>
    rw [exec_carried rfl] at e
    cases e
    exact .inl (.after (.runCommand (s.countTaken _) nofun) rfl)

/-- Every step moves the fault unit, or takes the power-on reset or a command that empties the capture record. -/
theorem State.step_faults {s t : State} (e : step s = .next t) :
    FaultMoves s t ∨ ∃ c rest, s.pending = c :: rest ∧
      ((c = .powerOnReset ∧ t.faultCore = State.reset.faultCore) ∨ (Instr.MayClear c ∧ s.CaptureCleared t)) := by
  unfold step at e
  split at e
  · cases e
    rcases s.idle_cases with ⟨-, e⟩ | ⟨-, e⟩ <;> rw [e]
    · exact .inl (.expireHold s)
    · exact .inl (.same rfl)
  · rename_i c rest pending
    rcases State.exec_faults e with moves | other
    · exact .inl (.after (t := { s with pending := rest }) moves rfl)
    · exact .inr ⟨c, rest, pending, other⟩

/-! ## What the moves keep -/

/-- The fault unit's soundness is read off the core. -/
theorem State.FaultsSound.of_core {s t : State} (h : s.FaultsSound) (e : t.faultCore = s.faultCore) : t.FaultsSound := by
  obtain ⟨faults, map⟩ := Prod.mk.inj e
  rw [State.faultsSound_iff, faults, map]
  exact s.faultsSound_iff.1 h

/-- An accepted write of a setting reaches one item of one class of the alert map, or leaves it (R138). -/
theorem Chassis.write_alertMap {c d : Chassis} {i : ChassisItem} {v : Half} (length : c.alertMap.length = 12)
    (written : c.write i v = some d) :
    (∃ k, i.alertClass = some k ∧ OneItem c.alertMap d.alertMap k) ∨ (i.alertClass = none ∧ d.alertMap = c.alertMap) := by
  have one : ∀ k f, ((∃ l, f (settingOf c.alertMap k) = { settingOf c.alertMap k with level := l }) ∨
      (∃ b, f (settingOf c.alertMap k) = { settingOf c.alertMap k with masked := b }) ∨
      ∃ r, f (settingOf c.alertMap k) = { settingOf c.alertMap k with release := r }) →
      OneItem c.alertMap (c.modifyAlert k f).alertMap k := fun k f item =>
    ⟨fun d other => c.setting_modifyAlert_ne f other, by rwa [c.setting_modifyAlert_same k f length]⟩
  have written := Chassis.written_of_write written
  cases i with
  | alertLevel k =>
    obtain ⟨l, -, rfl⟩ := written
    exact .inl ⟨k, rfl, one k _ (.inl ⟨l, rfl⟩)⟩
  | alertMasked k =>
    obtain ⟨b, -, rfl⟩ := written
    exact .inl ⟨k, rfl, one k _ (.inr (.inl ⟨b, rfl⟩))⟩
  | alertRelease k =>
    obtain ⟨r, -, rfl⟩ := written
    exact .inl ⟨k, rfl, one k _ (.inr (.inr ⟨r, rfl⟩))⟩
  | unknownAction p => cases p <;> obtain ⟨_, -, rfl⟩ := written <;> exact .inr ⟨rfl, rfl⟩
  | reportToA =>
    obtain ⟨_, -, rfl⟩ := written
    exact .inr ⟨rfl, rfl⟩
  | windowLower _ | windowUpper _ | windowStep _ | frontRadius _ | rearRadius _ | decimation | vectorBase =>
    subst written
    exact .inr ⟨rfl, rfl⟩

theorem State.FaultsSound.settingWritten {s : State} (h : s.FaultsSound) {i : ChassisItem} {v : Half} {d : Chassis}
    (written : s.store.chassis.write i v = some d) : ((s.withChassis d).alertMapWritten i s.store.chassis).FaultsSound := by
  obtain ⟨-, sound⟩ := s.faultsSound_iff.1 h
  have length : d.alertMap.length = 12 := (Chassis.write_lengths written).2.2.2.trans h.map
  unfold State.alertMapWritten
  rcases Chassis.write_alertMap h.map written with ⟨k, alert, change⟩ | ⟨other, same⟩
  · rw [alert, State.faultsSound_iff]
    exact ⟨length, sound.mapWritten (env := (s.withChassis d).faultEnv) (x := (s.withChassis d).faultSide) change⟩
  · rw [other]
    exact h.of_core (congrArg (Prod.mk s.faults) same)

/-- The moves keep the fault unit sound. -/
theorem FaultMoves.faultsSound {s t : State} (m : FaultMoves s t) (h : s.FaultsSound) : t.FaultsSound := by
  have on_side : ∀ {s : State}, s.FaultsSound → ∀ {x : FaultSide}, x.unit.Sound s.store.chassis.alertMap →
      (s.withFaultSide x).FaultsSound := fun h _ sound => (State.faultsSound_iff _).2 ⟨h.map, sound⟩
  have unit : ∀ {s : State}, s.FaultsSound → s.faultSide.unit.Sound s.faultEnv.map := fun h => ((State.faultsSound_iff _).1 h).2
  induction m with
  | same e => exact h.of_core e
  | trans _ _ earlier later => exact later (earlier h)
  | handOff s proper => exact on_side h ((unit h).takeHandOff proper)
  | handOffs s proper =>
    refine State.FaultsSound.of_core (on_side h ((unit h).takeAll fun g m => ?_)) rfl
    exact proper g (List.mem_of_mem_filter ((freeOrder_perm _ _ _).mem_iff.1 m))
  | acknowledge s number => exact on_side h ((unit h).acknowledge number)
  | settingWritten written => exact h.settingWritten written
  | repeatExpiry s l => exact on_side h ((unit h).repeatExpiry l)
  | resync s => exact on_side h (unit h).resync

/-- The moves keep what a locked capture record holds. -/
theorem FaultMoves.captureStands {s t : State} (m : FaultMoves s t) : CaptureStands s.faults.capture t.faults.capture := by
  induction m with
  | same e => exact .of_eq (congrArg (fun x => x.1.capture) e)
  | trans _ _ earlier later => exact earlier.trans later
  | handOff s _ => exact s.faultSide.takeHandOff_stands s.faultEnv _
  | handOffs s _ => exact s.faultSide.takeAll_stands s.faultEnv _
  | acknowledge s number => exact s.faultSide.acknowledge_stands s.faultEnv number
  | @settingWritten s i v d written =>
    unfold State.alertMapWritten
    split
    · exact .of_ledger (FaultSide.mapWritten_ledger _ (s.withChassis d).faultSide _ _)
    · exact .of_eq rfl
  | repeatExpiry s l => exact .of_ledger (s.faultSide.repeatExpiry_ledger s.faultEnv l)
  | resync s => exact .of_ledger (s.faultSide.resync_ledger s.faultEnv)

/-- After power-on reset nothing is asserted and every level is IDLE (R173). -/
theorem State.reset_faultsSound : State.reset.FaultsSound where
  classes := rfl
  levels := rfl
  map := rfl
  level := by
    intro l
    fin_cases l <;> exact ⟨rfl, rfl⟩
  condition := by
    intro c
    cases c <;> exact .of_released rfl fun _ => rfl

/-- An emptied capture record is no part of the levels and conditions. -/
theorem State.FaultsSound.captureCleared {s t : State} (h : s.FaultsSound) (cleared : s.CaptureCleared t) : t.FaultsSound :=
  State.FaultsSound.of_core (s := { s with faults := { s.faults with capture := none } })
    ⟨h.classes, h.levels, h.map, h.level, h.condition⟩ cleared

end Sys2Proof.Machine

namespace Sys2Proof.Proofs
open Sys2Proof.Machine

/-- Settles O59: every move of the fault unit keeps it sound, and so do the reset and the clearing of the capture record. -/
theorem alertsKept : Obligations.AlertsKept := by
  unfold Obligations.AlertsKept
  intro s t sound e
  rcases State.step_faults e with moves | ⟨_, _, -, ⟨-, reset⟩ | ⟨-, cleared⟩⟩
  · exact moves.faultsSound sound
  · exact State.reset_faultsSound.of_core reset
  · exact sound.captureCleared cleared

/-- Settles O60: the moves of the fault unit leave a locked record's captured fields, and only the power-on reset and the code of
CLEAR CAPTURE stand apart from them. -/
theorem captureKept : Obligations.CaptureKept := by
  unfold Obligations.CaptureKept
  intro s t r locked e
  rcases State.step_faults e with moves | ⟨c, rest, pending, ⟨isReset, reset⟩ | ⟨clears, cleared⟩⟩
  · obtain ⟨m, x, after, multiple, extra⟩ := moves.captureStands r locked
    exact .inl ⟨m, x, after, multiple, fun bound => (extra bound).1⟩
  · exact .inr ⟨c, rest, pending, congrArg (fun x => x.1.capture) reset, .inl isReset⟩
  · exact .inr ⟨c, rest, pending, congrArg (fun x => x.1.capture) cleared, .inr clears⟩

end Sys2Proof.Proofs
end

section
/-! The alert frame (R170, R188): the bits of its mask and the class that its vector byte names. -/

namespace Sys2Proof.Machine

/-- A bit of the asserted mask is set where a shown class stands at it (R188). -/
theorem getLsbD_maskBits (shown : List FaultClass) (i : Nat) : (maskBits shown).getLsbD i ↔ ∃ c ∈ shown, c.index = i := by
  have fold : ∀ m : Half, (shown.foldl (fun m c => m ||| (1#16 <<< c.index)) m).getLsbD i ↔
      m.getLsbD i ∨ ∃ c ∈ shown, c.index = i := by
    induction shown with
    | nil => simp
    | cons c cs ih =>
      intro m
      have bit : (1#16 <<< c.index).getLsbD i ↔ c.index = i := by
        have low := c.index_lt
        simp only [BitVec.getLsbD_shiftLeft, BitVec.getLsbD_one, Bool.and_eq_true, Bool.not_eq_true', decide_eq_true_eq,
          decide_eq_false_iff_not]
        omega
      rw [List.foldl_cons, ih]
      simp only [BitVec.getLsbD_or, Bool.or_eq_true, bit, List.mem_cons, exists_eq_or_imp, or_assoc]
  exact (fold 0).trans (by simp)

theorem maskBits_lt (shown : List FaultClass) : (maskBits shown).toNat < 4096 := by
  refine Nat.lt_pow_two_of_testBit (n := 12) _ fun i high => ?_
  by_contra bit
  obtain ⟨c, -, rfl⟩ := (getLsbD_maskBits shown i).1 (Bool.not_eq_false _ ▸ bit)
  exact absurd c.index_lt (by omega)

/-- The shown mask stands in the order of the class numbers, so its head is the lowest (R170). -/
theorem head?_shownMask {map : List AlertSetting} {u : FaultUnit} {l : Level} {c : FaultClass} (shows : c ∈ shownMask map u l)
    (lowest : ∀ d ∈ shownMask map u l, c.number ≤ d.number) : (shownMask map u l).head? = some c := by
  have sorted : (shownMask map u l).Pairwise (fun c d => c.index < d.index) :=
    List.Pairwise.filter _ (by decide)
  cases e : shownMask map u l with
  | nil =>
    rw [e] at shows
    exact nomatch shows
  | cons d ds =>
    rw [e] at shows lowest sorted
    rcases List.mem_cons.1 shows with rfl | later
    · rfl
    · have before := (List.pairwise_cons.1 sorted).1 c later
      have least := lowest d List.mem_cons_self
      unfold FaultClass.number at least
      omega

theorem alertFrame_mask (base : Nat) (l : Level) (shown : List FaultClass) :
    halfOf (dataByte (alertFrame base l shown).data 0) (dataByte (alertFrame base l shown).data 1) = maskBits shown :=
  halfOf_bytesOf _

theorem alertFrame_vector (base : Nat) (l : Level) (shown : List FaultClass) :
    (dataByte (alertFrame base l shown).data 2).toNat = (base * 16 + (shown.head?.map FaultClass.number).getD 0) % 256 := by
  simp [alertFrame, bytesOf, vectorByte, byteOf]

end Sys2Proof.Machine

namespace Sys2Proof.Proofs
open Sys2Proof.Machine

/-- Settles O34: a bit of the mask is set for each shown class, and the head of the shown mask is its lowest class. -/
theorem alertFrameFields : Obligations.AlertFrameFields := by
  unfold Obligations.AlertFrameFields
  intro map u base l low shown f mask
  have mask_eq : mask = maskBits shown := alertFrame_mask base l shown
  refine ⟨?ident, rfl, mask_eq ▸ maskBits_lt shown, fun c => ?bit, fun empty => ?none, fun c shows lowest => ?lowest⟩
  case ident => fin_cases l <;> rfl
  case bit =>
    rw [mask_eq, getLsbD_maskBits, ← mem_shownMask]
    exact ⟨fun ⟨d, shows, same⟩ => FaultClass.index_injective same ▸ shows, fun shows => ⟨c, shows, rfl⟩⟩
  case none =>
    rw [alertFrame_vector, empty]
    simp only [List.head?_nil, Option.map_none, Option.getD_none]
    omega
  case lowest =>
    have bound := c.index_lt
    rw [alertFrame_vector, head?_shownMask shows lowest]
    simp only [Option.map_some, Option.getD_some, FaultClass.number]
    omega

end Sys2Proof.Proofs
end

section
/-! The expiry of a repeat timer (R169). -/

namespace Sys2Proof.Machine

section

variable {env : FaultEnv} {x : FaultSide} {l : Level}

theorem FaultSide.resyncLevel_record (classes : x.unit.classes.length = 12) (levels : x.unit.levels.length = 4) (c : FaultClass) :
    ((x.resyncLevel env l).unit.record c).asserted =
      ((x.unit.record c).asserted && !(decide (c ∈ shownMask env.map x.unit l) && isFollowEvent env.map c)) := by
  rw [FaultSide.resyncLevel_eq env levels,
    FaultSide.emit_record env (x := { x with unit := x.unit.modifyLevel l (LevelRecord.resynced env.now) }) classes]
  rfl

/-- An ACTIVE level stays ACTIVE where its frame carries a class that the frame does not release, and is CLOSING otherwise. -/
theorem FaultSide.resyncLevel_phase (classes : x.unit.classes.length = 12) (levels : x.unit.levels.length = 4)
    (active : (x.unit.level l).phase = .active) (shows : shownMask env.map x.unit l ≠ []) :
    ((x.resyncLevel env l).unit.level l).phase =
      if ∃ c ∈ shownMask env.map x.unit l, isFollowEvent env.map c = false then .active else .closing := by
  have phase := FaultSide.emit_phase env (x := { x with unit := x.unit.modifyLevel l (LevelRecord.resynced env.now) }) (l := l)
    classes ((x.unit.modifyLevel_length l _).trans levels) shows
  rw [FaultUnit.level_modifyLevel_same _ _ _ levels, LevelRecord.resynced_active active] at phase
  rw [FaultSide.resyncLevel_eq env levels, phase, active]
  rfl

end

/-- The marks as a frame leaves them, in the words of R160 and R162. -/
theorem released_follow_event (map : List AlertSetting) (shown : List FaultClass) (c : FaultClass) (b : Bool) :
    (b && !(decide (c ∈ shown) && isFollowEvent map c)) =
      (b && !(decide (c ∈ shown ∧ (settingOf map c).release = .follow) && !c.isCondition)) := by
  rw [isFollowEvent, Bool.decide_and, Bool.and_comm (!c.isCondition), Bool.and_assoc]

/-- A level whose timer runs is not IDLE. -/
theorem LevelSound.runs {map : List AlertSetting} {u : FaultUnit} {l : Level} (sound : LevelSound map u l)
    (timer : (u.level l).repeatTimer ≠ none) : (u.level l).phase ≠ .idle := by
  intro idle
  unfold LevelSound at sound
  rw [idle] at sound
  exact timer sound.2

/-- An ACTIVE level shows a class. -/
theorem LevelSound.shows {map : List AlertSetting} {u : FaultUnit} {l : Level} (sound : LevelSound map u l)
    (active : (u.level l).phase = .active) : shownMask map u l ≠ [] := by
  unfold LevelSound at sound
  rw [active] at sound
  exact sound.1

end Sys2Proof.Machine

namespace Sys2Proof.Proofs
open Sys2Proof.Machine

/-- Settles O35: the repeat of a level whose timer runs is its frame as at a recovery, and a level in service shows a class. -/
theorem repeatTimerExpires : Obligations.RepeatTimerExpires := by
  unfold Obligations.RepeatTimerExpires
  intro s l sound map shown
  have due : ∀ start, timerDue s.now start repeatSetting ↔ 200 ≤ ageOf s.now start := fun _ => decide_eq_true_iff
  constructor
  · intro start timer reached
    have isDue : s.repeatDue l = true := by
      rw [State.repeatDue, timer]
      exact (due start).2 reached
    have runs := (sound.level l).runs (by rw [timer]; exact nofun)
    have repeated : exec (.repeatTimerExpiry l) s = .next (s.withFaultSide (s.faultSide.resyncLevel s.faultEnv l)) := by
      rw [← FaultSide.repeatExpiry_eq s.faultEnv (x := s.faultSide) runs]
      exact congrArg Host.Outcome.next (if_pos isDue)
    obtain ⟨frames, -, closing, active⟩ :=
      FaultSide.resyncLevel_level (env := s.faultEnv) (x := s.faultSide) sound.levels (sound.level l)
    refine ⟨_, repeated, rfl, FaultSide.resyncLevel_port s.faultEnv (x := s.faultSide) sound.levels l, frames, fun c => ?_, closing,
      fun phase => ⟨active phase, ?_⟩, fun k other => ?_, FaultSide.resyncLevel_capture s.faultEnv (x := s.faultSide) sound.levels l⟩
    · exact (FaultSide.resyncLevel_record (x := s.faultSide) sound.classes sound.levels c).trans (released_follow_event map shown c _)
    · simp only [← isFollowEvent_eq_false_iff]
      exact FaultSide.resyncLevel_phase (x := s.faultSide) sound.classes sound.levels phase ((sound.level l).shows phase)
    · exact FaultSide.resyncLevel_level_ne s.faultEnv (x := s.faultSide) sound.levels other
  · intro early
    have notDue : ¬ s.repeatDue l := by
      unfold State.repeatDue
      split
      · rename_i start timer
        exact fun reached => absurd (early start timer) (Nat.not_lt.2 ((due start).1 reached))
      · simp
    exact congrArg Host.Outcome.next (if_neg notDue)

end Sys2Proof.Proofs
end

section
/-! What one hand-off does to the capture record, to its class and to its level (R158 to R162, R165, R166, R168). -/

namespace Sys2Proof.Machine

/-! ## The capture record at an occurrence (R165, R166) -/

theorem FaultUnit.take_unlocked {u : FaultUnit} (env : FaultEnv) (c : FaultClass) (source : Source) (value : Half)
    (unlocked : u.capture = none) : (u.take env c source value).captures = bump u.captures ∧
      (u.take env c source value).capture = some ⟨c, source, value, env.now, env.state, env.lean.tdiv 10, false, 0⟩ := by
  simp [FaultUnit.take, unlocked, leanTenths]

theorem FaultUnit.take_locked {u : FaultUnit} (env : FaultEnv) (c : FaultClass) (source : Source) (value : Half) {r : Capture}
    (locked : u.capture = some r) : (u.take env c source value).captures = u.captures ∧
      (u.take env c source value).capture = some { r with multiple := true, extra := min (r.extra + 1) 255 } := by
  simp [FaultUnit.take, locked]

section

variable (env : FaultEnv) (c : FaultClass) (source : Source) (value : Half) {x : FaultSide}

theorem FaultSide.occur_unlocked (unlocked : x.unit.capture = none) :
    (x.occur env c source value).unit.captures = bump x.unit.captures ∧ (x.occur env c source value).unit.capture =
      some ⟨c, source, value, env.now, env.state, env.lean.tdiv 10, false, 0⟩ := by
  obtain ⟨capture, captures, -⟩ := FaultUnit.ledger_eq (FaultSide.occur_ledger env c source value x)
  rw [capture, captures]
  exact FaultUnit.take_unlocked env c source value unlocked

theorem FaultSide.occur_locked {r : Capture} (locked : x.unit.capture = some r) :
    (x.occur env c source value).unit.captures = x.unit.captures ∧ (x.occur env c source value).unit.capture =
      some { r with multiple := true, extra := min (r.extra + 1) 255 } := by
  obtain ⟨capture, captures, -⟩ := FaultUnit.ledger_eq (FaultSide.occur_ledger env c source value x)
  rw [capture, captures]
  exact FaultUnit.take_locked env c source value locked

end

/-- A class that a frame does not release stays asserted (R160, R162). -/
theorem not_isFollowEvent (map : List AlertSetting) (c : FaultClass) :
    (!isFollowEvent map c) = (c.isCondition || decide ((settingOf map c).release = .latched)) := by
  cases kind : c.isCondition <;> cases release : (settingOf map c).release <;> simp [isFollowEvent, kind, release]

section

variable (env : FaultEnv) (c : FaultClass) (source : Source) (value : Half) {x : FaultSide}

/-! ## The class and its level (R159, R162, R168) -/

/-- An occurrence leaves the causes as they stand. -/
theorem FaultSide.occur_cause (classes : x.unit.classes.length = 12) (d : FaultClass) :
    ((x.occur env c source value).unit.record d).cause = (x.unit.record d).cause := by
  by_cases same : d = c
  · rw [same, FaultSide.occur_record env c source value classes]
  · obtain ⟨b, record, -⟩ := FaultSide.occur_record_ne env c source value classes same
    rw [record]

@[simp] theorem FaultSide.asserting_levels : (x.asserting env c source value).unit.levels = x.unit.levels :=
  FaultUnit.counted_levels ..

/-- An occurrence of a released unmasked class queues a frame that carries it and starts its level's timer; the other levels stand. -/
theorem FaultSide.occur_level (classes : x.unit.classes.length = 12) (levels : x.unit.levels.length = 4)
    (released : (x.unit.record c).asserted = false) (unmasked : (settingOf env.map c).masked = false) :
    let l := (settingOf env.map c).level
    let t := x.occur env c source value
    t.port = x.port.offerAlert l (alertFrame env.vectorBase l
      (allClasses.filter (fun d => decide (d = c ∨ d ∈ shownMask env.map x.unit l)))) ∧
    (t.unit.level l).repeatTimer = some env.now ∧ (t.unit.level l).frames = bump (x.unit.level l).frames ∧
    ∀ k, k ≠ l → t.unit.level k = x.unit.level k := by
  intro l t
  have added : t = (x.asserting env c source value).levelAdd env l := FaultSide.occur_shown env c source value released unmasked
  have before : ∀ k, (x.asserting env c source value).unit.level k = x.unit.level k := fun k => by simp [FaultUnit.level]
  have mask := FaultSide.shownMask_asserting env c source value classes unmasked
  have shows : shownMask env.map (x.asserting env c source value).unit l ≠ [] := by
    refine List.ne_nil_of_mem (a := c) ?_
    rw [mask]
    simp [mem_allClasses]
  have level := FaultSide.levelAdd_level env (FaultSide.asserting_length env c source value classes)
    (by simpa using levels) shows
  rw [before] at level
  rw [added, FaultSide.levelAdd_port, mask, level]
  exact ⟨rfl, rfl, rfl, fun k other => (FaultSide.levelAdd_level_ne env other).trans (before k)⟩

end

/-! ## The absence of a cause (R158, R160) -/

/-- Absent on a present mark clears it and releases a FOLLOW class; nothing else of a class changes. -/
theorem FaultSide.absent_record {env : FaultEnv} {c : FaultClass} {x : FaultSide} (classes : x.unit.classes.length = 12)
    (present : (x.unit.record c).cause) (asserted : (x.unit.record c).asserted) (d : FaultClass) :
    (x.takeHandOff env (.absent c)).unit.record d =
      if d = c then { x.unit.record d with cause := false, asserted := decide ((settingOf env.map c).release = .latched) }
      else x.unit.record d := by
  cases release : (settingOf env.map c).release with
  | follow =>
    rw [FaultSide.takeHandOff_absent_released present asserted release, FaultSide.release_record env (FaultSide.cleared_length c classes),
      FaultSide.cleared_record c classes]
    split <;> rfl
  | latched =>
    rw [FaultSide.takeHandOff_absent_kept present fun _ => release, FaultSide.cleared_record c classes]
    by_cases same : d = c
    · subst same
      simp [asserted]
    · rw [if_neg same, if_neg same]

theorem FaultSide.absent_ledger {env : FaultEnv} {c : FaultClass} {x : FaultSide} (present : (x.unit.record c).cause)
    (asserted : (x.unit.record c).asserted) : (x.takeHandOff env (.absent c)).unit.ledger = x.unit.ledger := by
  cases release : (settingOf env.map c).release with
  | follow =>
    rw [FaultSide.takeHandOff_absent_released present asserted release]
    exact FaultSide.release_ledger env c (x.cleared c)
  | latched =>
    rw [FaultSide.takeHandOff_absent_kept present fun _ => release]
    rfl

end Sys2Proof.Machine

namespace Sys2Proof.Proofs
open Sys2Proof.Machine

/-- Settles O36: an event is an occurrence; a present cause on an absent mark is one with the mark set; an absent cause on a present
mark clears the record and releases. -/
theorem handOffTaken : Obligations.HandOffTaken := by
  unfold Obligations.HandOffTaken
  refine ⟨?event, fun s c source value sound kind => ⟨fun present => ?again,
    fun absent => ?still, fun absent => ?present, fun present => ?absent⟩⟩
  case event =>
    intro s c source value sound t map l keeps
    have classes : s.faultSide.unit.classes.length = 12 := sound.classes
    have record := FaultSide.occur_record s.faultEnv c source value classes
    refine ⟨rfl, congrArg ClassRecord.occurrences record, FaultSide.occur_cause s.faultEnv c source value classes,
      fun unlocked => FaultSide.occur_unlocked s.faultEnv c source value (x := s.faultSide) unlocked,
      fun r locked => FaultSide.occur_locked s.faultEnv c source value (x := s.faultSide) locked,
      fun asserted => ?_, fun released => ?_, fun released masked => ?_, fun released unmasked => ?_⟩
    · have taken := FaultSide.occur_asserted s.faultEnv c source value (x := s.faultSide) asserted
      refine ⟨congrArg FaultSide.port taken, (congrArg (·.unit.levels) taken).trans (FaultUnit.counted_levels ..), ?_⟩
      exact (congrArg ClassRecord.asserted record).trans (by rw [show (s.faultSide.unit.record c).asserted = true from asserted]; rfl)
    · refine (congrArg ClassRecord.asserted record).trans ?_
      rw [show (s.faultSide.unit.record c).asserted = false from released, Bool.false_or]
      exact not_isFollowEvent map c
    · have taken := FaultSide.occur_masked s.faultEnv c source value (x := s.faultSide) released masked
      exact ⟨congrArg FaultSide.port taken, (congrArg (·.unit.levels) taken).trans (FaultUnit.counted_levels ..)⟩
    · exact FaultSide.occur_level s.faultEnv c source value classes sound.levels released unmasked
  case again =>
    exact congrArg s.withFaultSide (s.faultSide.takeHandOff_idle s.faultEnv _ (by simp [HandOff.matters, State.faultSide, present]))
  case still =>
    exact congrArg s.withFaultSide (s.faultSide.takeHandOff_idle s.faultEnv (.absent c) absent)
  case present =>
    intro t
    have marked := FaultSide.marked_record c source value (x := s.faultSide) sound.classes
    have length := FaultSide.marked_length c source value (x := s.faultSide) sound.classes
    have taken : t = s.withFaultSide ((s.faultSide.marked c source value).occur s.faultEnv c source value) :=
      congrArg s.withFaultSide (FaultSide.takeHandOff_present source value s.faultEnv absent)
    have record := FaultSide.occur_record s.faultEnv c source value length
    rw [marked, if_pos rfl] at record
    have stays : isFollowEvent s.faultEnv.map c = false := isFollowEvent_eq_false_iff.2 (.inl kind)
    rw [taken]
    refine ⟨rfl, congrArg ClassRecord.cause record, (congrArg ClassRecord.asserted record).trans (by simp [stays]),
      congrArg ClassRecord.occurrences record, fun unlocked => ?_,
      fun d other => (FaultSide.occur_cause s.faultEnv c source value length d).trans ?_⟩
    · exact (FaultSide.occur_unlocked s.faultEnv c source value (x := s.faultSide.marked c source value) unlocked).2
    · rw [marked, if_neg other]
      rfl
  case absent =>
    intro t
    have asserted := (sound.condition c kind).1 present
    have record := FaultSide.absent_record (env := s.faultEnv) (x := s.faultSide) sound.classes present asserted
    have same := record c
    rw [if_pos rfl] at same
    refine ⟨rfl, congrArg ClassRecord.cause same, congrArg ClassRecord.asserted same, (congrArg ClassRecord.occurrences same).trans rfl,
      (FaultUnit.ledger_eq (FaultSide.absent_ledger (env := s.faultEnv) (x := s.faultSide) present asserted)).1, fun d other => ?_⟩
    exact congrArg ClassRecord.cause ((record d).trans (if_neg other))

end Sys2Proof.Proofs
end

section
/-! ACK ALERT (R163): its answers, and the records after a release and after a re-assertion. -/

namespace Sys2Proof.Machine

/-- ACK ALERT answers what the fault unit answers, on the state that counted the frame. -/
theorem exec_ackAlert {s : State} {x : FaultSide} {r : Result} {cls : Byte}
    (answer : s.faultSide.acknowledge s.faultEnv cls.toNat = (x, r)) (sender : Sender) (tag : Byte) :
    exec (.ackAlert sender tag cls) s = .next (((s.takenFrom sender).withFaultSide x).reply sender 0x0C tag r []) := by
  have ran : (s.takenFrom sender).acknowledgeAt cls.toNat = ⟨(s.takenFrom sender).withFaultSide x, r, []⟩ := by
    unfold State.acknowledgeAt answerPlain
    rw [show (s.takenFrom sender).faultSide.acknowledge (s.takenFrom sender).faultEnv cls.toNat = (x, r) from answer]
  exact (congrArg (fun t => Host.Outcome.next (t.runAckAlert sender tag cls)) (s.countTaken_eq sender)).trans (next_send ran ..)

theorem FaultSide.acknowledge_unknown (env : FaultEnv) (x : FaultSide) {number : Nat} (outside : number = 0 ∨ 12 < number) :
    x.acknowledge env number = (x, .badOperand) := by simp [FaultSide.acknowledge, classOfNumber_eq_none outside]

/-- A class released by acknowledgement is not asserted; the acknowledgement is counted, and nothing is captured. -/
theorem FaultSide.ackRelease_effect (env : FaultEnv) (c : FaultClass) {x : FaultSide} (classes : x.unit.classes.length = 12) :
    ((x.ackRelease env c).unit.record c).asserted = false ∧
    (x.ackRelease env c).unit.acknowledgements = bump x.unit.acknowledgements ∧
    (x.ackRelease env c).unit.reassertions = x.unit.reassertions ∧ (x.ackRelease env c).unit.capture = x.unit.capture := by
  have record := FaultSide.release_record env (c := c) (x := x.acknowledged) classes c
  rw [if_pos rfl] at record
  obtain ⟨capture, -, acknowledgements, reassertions⟩ := FaultUnit.ledger_eq (FaultSide.release_ledger env c x.acknowledged)
  exact ⟨congrArg ClassRecord.asserted record, acknowledgements, reassertions, capture⟩

/-- A re-assertion is counted and is no acknowledgement; it locks an unlocked capture record (R163, R165). -/
theorem FaultSide.reassert_effect (env : FaultEnv) (c : FaultClass) (x : FaultSide) :
    (x.reassert env c).unit.reassertions = bump x.unit.reassertions ∧
    (x.reassert env c).unit.acknowledgements = x.unit.acknowledgements ∧
    (x.unit.capture = none → (x.reassert env c).unit.capture =
      some ⟨c, (x.unit.record c).lastSource, (x.unit.record c).lastValue, env.now, env.state, env.lean.tdiv 10, false, 0⟩) := by
  obtain ⟨capture, -, acknowledgements, reassertions⟩ := FaultUnit.ledger_eq (FaultSide.reassert_ledger env (c := c) (x := x))
  rw [capture, acknowledgements, reassertions]
  have taken : ∀ source value, (x.unit.take env c source value).reassertions = x.unit.reassertions ∧
      (x.unit.take env c source value).acknowledgements = x.unit.acknowledgements := by
    intro source value
    unfold FaultUnit.take
    split <;> exact ⟨rfl, rfl⟩
  obtain ⟨reassertions, acknowledgements⟩ := taken (x.unit.record c).lastSource (x.unit.record c).lastValue
  exact ⟨congrArg bump reassertions, acknowledgements, fun unlocked => (FaultUnit.take_unlocked env c _ _ unlocked).2⟩

end Sys2Proof.Machine

namespace Sys2Proof.Proofs
open Sys2Proof.Machine

/-- Settles O37: an acknowledgement by the class named, its release and its re-assertion. -/
theorem alertAcknowledged : Obligations.AlertAcknowledged := by
  unfold Obligations.AlertAcknowledged
  intro s sender tag cls sound u answered
  refine ⟨fun outside => exec_ackAlert (s.faultSide.acknowledge_unknown s.faultEnv outside) sender tag, fun c number => ?_⟩
  intro r release
  have named : classOfNumber cls.toNat = some c := classOfNumber_eq_some_iff.2 number
  have classes : s.faultSide.unit.classes.length = 12 := sound.classes
  refine ⟨fun released => ?released, fun asserted kind follow => ?follow, fun asserted releasable => ?releases,
    fun asserted kind latched cause => ?reasserts⟩
  case released => exact exec_ackAlert (FaultSide.acknowledge_released s.faultEnv named (x := s.faultSide) released) sender tag
  case follow => exact exec_ackAlert (FaultSide.acknowledge_follow s.faultEnv named (x := s.faultSide) asserted kind follow) sender tag
  case releases =>
    exact ⟨_, exec_ackAlert (FaultSide.acknowledge_releases s.faultEnv named (x := s.faultSide) asserted releasable) sender tag, rfl,
      FaultSide.ackRelease_effect s.faultEnv c classes⟩
  case reasserts =>
    have record := FaultSide.reassert_record s.faultEnv classes kind
    refine ⟨_, exec_ackAlert (FaultSide.acknowledge_reasserts s.faultEnv named (x := s.faultSide) asserted kind latched cause) sender tag,
      rfl, (congrArg ClassRecord.asserted record).trans asserted, congrArg ClassRecord.occurrences record,
      FaultSide.reassert_effect s.faultEnv c s.faultSide⟩

end Sys2Proof.Proofs
end

section
/-! A write of the alert map in the words of R171: the class leaves a level, joins one, or is released. -/

namespace Sys2Proof.Machine

/-! ## The item of a class by its part (R138, R189) -/

/-- The level, the masked mark and the release type of a class, in the order of their numbers. -/
def alertItem (c : FaultClass) : Nat → ChassisItem
  | 0 => .alertLevel c
  | 1 => .alertMasked c
  | _ => .alertRelease c

theorem chassisItem_alert (c : FaultClass) {part : Nat} (listed : part ≤ 2) :
    chassisItem (50 + (c.number - 1) * 3 + part) = some (alertItem c part) := by
  have named : ∀ c ∈ allClasses, ∀ part < 3, chassisItem (50 + (c.number - 1) * 3 + part) = some (alertItem c part) := by decide
  exact named c (mem_allClasses c) part (by omega)

/-- A value in the range of its part is taken (R138). -/
theorem Chassis.write_alertItem (d : Chassis) (c : FaultClass) {part : Nat} (listed : part ≤ 2) {value : Half}
    (inRange : value.toNat ≤ if part = 0 then 3 else 1) : ∃ e, d.write (alertItem c part) value = some e := by
  obtain ⟨inTable, number⟩ := chassisItem_number (chassisItem_alert c listed)
  refine Option.isSome_iff_exists.1 ((d.write_isSome_iff inTable value).2 ?_)
  have place : 50 + (c.number - 1) * 3 + part = 50 + part + 3 * c.index := by
    unfold FaultClass.number
    omega
  rw [number, place]
  exact (d.allowed_alert c (by omega) value).2 inRange

/-- An accepted write of the alert map: the fault unit takes it under the new map, and DONE is answered (R133, R171). -/
theorem exec_alertMapWrite {s : State} (still : s.standstill) {item : Byte} {value : Half} {c : FaultClass} {part : Nat} {d : Chassis}
    (listed : part ≤ 2) (number : item.toNat = 50 + (c.number - 1) * 3 + part)
    (written : s.store.chassis.write (alertItem c part) value = some d) (tag : Byte) :
    exec (.writeChassisSetting tag item value) s =
      .next ((((s.takenFrom .service).withChassis d).withFaultSide (s.faultSide.mapWritten (s.withChassis d).faultEnv c
        (settingOf s.store.chassis.alertMap c))).reply .service 0x08 tag .done []) := by
  have done := (s.takenFrom .service).writeChassis_done (number ▸ chassisItem_alert c listed) written
  have alert : (alertItem c part).alertClass = some c := by
    unfold alertItem
    split <;> rfl
  rw [State.alertMapWritten, alert] at done
  exact State.gated_answered still done

/-- A write of the alert map leaves the counts and the causes of every class (R171). -/
theorem FaultSide.mapWritten_record {env : FaultEnv} {c : FaultClass} {x : FaultSide} (old : AlertSetting)
    (classes : x.unit.classes.length = 12) (d : FaultClass) :
    ∃ b, (x.mapWritten env c old).unit.record d = { x.unit.record d with asserted := b } := by
  have cleared : ∀ u : FaultUnit, u.classes.length = 12 → u.record d = x.unit.record d →
      ∃ b, (u.setAsserted c false).record d = { x.unit.record d with asserted := b } := by
    intro u length same
    rw [FaultUnit.record_setAsserted length, same]
    split
    · exact ⟨_, rfl⟩
    · exact ⟨_, rfl⟩
  have removed : ∀ l, (x.levelRemove env l).unit.record d = x.unit.record d := fun l => FaultSide.levelRemove_record env d
  have length : ∀ l, (x.levelRemove env l).unit.classes.length = 12 := fun l => (FaultSide.levelRemove_length env).trans classes
  unfold FaultSide.mapWritten
  simp only
  split
  · exact ⟨_, rfl⟩
  split
  · split
    · exact ⟨_, rfl⟩
    · exact ⟨_, by rw [FaultSide.levelAdd_record env (length _), removed]⟩
  split
  · split
    · exact cleared _ (length _) (removed _)
    · exact ⟨_, removed _⟩
  split
  · exact ⟨_, FaultSide.levelAdd_record env classes d⟩
  split
  · split
    · split
      · exact ⟨_, rfl⟩
      · rw [FaultSide.release_record env classes]
        split
        · exact ⟨_, rfl⟩
        · exact ⟨_, rfl⟩
    · split
      · exact cleared _ classes rfl
      · exact ⟨_, rfl⟩
  · exact ⟨_, rfl⟩

/-! ## A class that leaves its level (R168, R171) -/

/-- A class has left level `l`: where it showed `alone` the level queued its final frame and is IDLE, else the level stands. -/
def FaultSide.Leaves (base : Nat) (l : Level) (alone : Prop) (x : FaultSide) (q : Port) (u : FaultUnit) : Prop :=
  (alone → q = x.port.offerAlert l (alertFrame base l []) ∧ u.level l = ⟨.idle, none, bump (x.unit.level l).frames⟩) ∧
  (¬ alone → q = x.port ∧ u.level l = x.unit.level l)

/-- A level that no longer shows one class shows nothing where it showed that class alone. -/
theorem shownMask_eq_nil_iff {map map' : List AlertSetting} {u v : FaultUnit} {c : FaultClass} {l : Level}
    (hidden : c ∉ shownMask map' v l) (others : ∀ d, d ≠ c → (d ∈ shownMask map' v l ↔ d ∈ shownMask map u l)) :
    shownMask map' v l = [] ↔ ∀ d ∈ shownMask map u l, d = c := by
  rw [List.eq_nil_iff_forall_not_mem]
  constructor
  · intro empty d shows
    by_contra other
    exact empty d ((others d other).2 shows)
  · intro alone d shows
    by_cases same : d = c
    · exact hidden (same ▸ shows)
    · exact same (alone d ((others d same).1 shows))

theorem FaultSide.levelRemove_leaves (env : FaultEnv) {l : Level} {x : FaultSide} {alone : Prop} (levels : x.unit.levels.length = 4)
    (active : (x.unit.level l).phase = .active) (empties : shownMask env.map x.unit l = [] ↔ alone) :
    x.Leaves env.vectorBase l alone (x.levelRemove env l).port (x.levelRemove env l).unit := by
  constructor
  · intro isAlone
    have empty := empties.2 isAlone
    exact ⟨congrArg FaultSide.port (FaultSide.levelRemove_emptied env active empty),
      FaultSide.levelRemove_level_emptied env levels active empty⟩
  · intro notAlone
    rw [FaultSide.levelRemove_shows env (mt empties.1 notAlone)]
    exact ⟨rfl, rfl⟩

/-! ## A class that joins a level (R162, R168, R171) -/

/-- A class has joined level `l`, Port A standing at `q` before it: the level queued a frame with the class and restarted its timer,
and the FOLLOW events carried are released. -/
def FaultSide.Joins (map : List AlertSetting) (env : FaultEnv) (c : FaultClass) (l : Level) (x : FaultSide) (q : Port)
    (y : FaultSide) : Prop :=
  let carried := allClasses.filter (fun d => decide (d = c ∨ d ∈ shownMask map x.unit l))
  let stays := fun (d : FaultClass) => d.isCondition ∨ (settingOf map d).release = .latched
  y.port = q.offerAlert l (alertFrame env.vectorBase l carried) ∧
  (y.unit.level l).repeatTimer = some env.now ∧ (y.unit.level l).frames = bump (x.unit.level l).frames ∧
  (y.unit.level l).phase = (if ∃ d ∈ carried, stays d then .active else .closing) ∧
  (∀ d, (y.unit.record d).asserted ↔ (x.unit.record d).asserted ∧ (d ∈ carried → stays d))

section

variable {map : List AlertSetting} {env : FaultEnv} {c : FaultClass} {l : Level} {x : FaultSide}
  (others : ∀ d, d ≠ c → settingOf env.map d = settingOf map d)
include others

/-- The level joined shows the class with what it showed. -/
theorem shownMask_joined (asserted : (x.unit.record c).asserted) (unmasked : (settingOf env.map c).masked = false)
    (level : (settingOf env.map c).level = l) : shownMask env.map x.unit l =
      allClasses.filter (fun d => decide (d = c ∨ d ∈ shownMask map x.unit l)) := by
  refine List.filter_congr fun d _ => ?_
  by_cases same : d = c
  · simp [same, asserted, unmasked, level]
  · rw [others d same, Bool.eq_iff_iff]
    simp [same, mem_shownMask, and_assoc]

/-- The level of a class joined under the new map; `y` is the unit before, which may have left another level. -/
theorem FaultSide.levelAdd_joins {y : FaultSide} (classes : y.unit.classes.length = 12) (levels : y.unit.levels.length = 4)
    (records : ∀ d, y.unit.record d = x.unit.record d) (stands : y.unit.level l = x.unit.level l)
    (release : (settingOf env.map c).release = (settingOf map c).release) (asserted : (x.unit.record c).asserted)
    (unmasked : (settingOf env.map c).masked = false) (level : (settingOf env.map c).level = l) :
    x.Joins map env c l y.port (y.levelAdd env l) := by
  have mask : shownMask env.map y.unit l = allClasses.filter (fun d => decide (d = c ∨ d ∈ shownMask map x.unit l)) := by
    rw [← shownMask_joined others asserted unmasked level]
    exact shownMask_congr fun d _ _ => by rw [records]
  have releases : ∀ d, (settingOf env.map d).release = (settingOf map d).release := by
    intro d
    by_cases same : d = c
    · rw [same, release]
    · rw [others d same]
  have shows : shownMask env.map y.unit l ≠ [] := by
    refine List.ne_nil_of_mem (a := c) ?_
    rw [mask]
    simp [mem_allClasses]
  have after := FaultSide.levelAdd_level env classes levels shows
  have follows : ∀ d, isFollowEvent env.map d = false ↔ d.isCondition ∨ (settingOf map d).release = .latched := fun d => by
    rw [isFollowEvent_eq_false_iff, releases]
  rw [stands] at after
  simp only [mask, follows] at after
  refine ⟨by rw [FaultSide.levelAdd_port, mask], by rw [after], by rw [after], by rw [after], fun d => ?_⟩
  rw [FaultSide.levelAdd_record env classes, mask, records]
  simp only [← follows, Bool.and_eq_true, Bool.not_eq_true', Bool.and_eq_false_iff, decide_eq_false_iff_not]
  tauto

end

/-! ## The marks after a release (R160) -/

/-- The class alone has been released. -/
def FaultUnit.Released (u v : FaultUnit) (c : FaultClass) : Prop :=
  (v.record c).asserted = false ∧ ∀ d, d ≠ c → (v.record d).asserted = (u.record d).asserted

theorem FaultUnit.setAsserted_released {u : FaultUnit} (classes : u.classes.length = 12) (c : FaultClass) :
    u.Released (u.setAsserted c false) c := by
  have record := fun d => FaultUnit.record_setAsserted classes c d false
  exact ⟨by rw [record, if_pos rfl], fun d other => by rw [record, if_neg other]⟩

theorem FaultSide.release_released (env : FaultEnv) {c : FaultClass} {x : FaultSide} (classes : x.unit.classes.length = 12) :
    x.unit.Released (x.release env c).unit c := by
  have record := FaultSide.release_record env (c := c) classes
  exact ⟨by rw [record, if_pos rfl], fun d other => by rw [record, if_neg other]⟩

end Sys2Proof.Machine
end

section
/-! What a write of each part of a class's alert map does to the class and its level (R162, R168, R171). -/

namespace Sys2Proof.Machine

section

variable {map : List AlertSetting} {env : FaultEnv} {c : FaultClass} {x : FaultSide} (sound : x.unit.Sound map)
  (others : ∀ d, d ≠ c → settingOf env.map d = settingOf map d) (asserted : (x.unit.record c).asserted)
include sound others asserted

/-- A shown class hidden at its level by a write leaves that level. -/
theorem FaultUnit.Sound.leaves (unmasked : (settingOf map c).masked = false)
    (hidden : c ∉ shownMask env.map x.unit (settingOf map c).level) :
    x.Leaves env.vectorBase (settingOf map c).level (∀ d ∈ shownMask map x.unit (settingOf map c).level, d = c)
      (x.levelRemove env (settingOf map c).level).port (x.levelRemove env (settingOf map c).level).unit :=
  have shows : c ∈ shownMask map x.unit (settingOf map c).level := mem_shownMask.2 ⟨asserted, unmasked, rfl⟩
  FaultSide.levelRemove_leaves env sound.levels ((sound.level _).active (List.ne_nil_of_mem shows)).1
    (shownMask_eq_nil_iff hidden fun d other => by rw [mem_shownMask, mem_shownMask, others d other])

/-- The level of a shown class moved: it leaves the old level and joins the new one; the other levels stand. -/
theorem FaultUnit.Sound.level_moved {l : Level} (level : settingOf env.map c = { settingOf map c with level := l })
    (unmasked : (settingOf map c).masked = false) (moved : l ≠ (settingOf map c).level) :
    let y := x.mapWritten env c (settingOf map c)
    (∃ q, x.Leaves env.vectorBase (settingOf map c).level (∀ d ∈ shownMask map x.unit (settingOf map c).level, d = c) q y.unit ∧
      x.Joins map env c l q y) ∧
    ∀ k, k ≠ l → k ≠ (settingOf map c).level → y.unit.level k = x.unit.level k := by
  intro y
  have written : y = (x.levelRemove env (settingOf map c).level).levelAdd env l :=
    FaultSide.mapWritten_level_moved level asserted unmasked moved
  have hidden : c ∉ shownMask env.map x.unit (settingOf map c).level := fun shows => moved (by
    rw [← (mem_shownMask.1 shows).2.2, level])
  rw [written]
  refine ⟨⟨_, ?_, FaultSide.levelAdd_joins others ((FaultSide.levelRemove_length env).trans sound.classes)
    ((FaultSide.levelRemove_levels_length env _ x).trans sound.levels) (fun d => FaultSide.levelRemove_record env d)
    (FaultSide.levelRemove_level_ne env moved) (by rw [level]) asserted (by rw [level]; exact unmasked) (by rw [level])⟩,
    fun k new old => (FaultSide.levelAdd_level_ne env new).trans (FaultSide.levelRemove_level_ne env old)⟩
  have leaves := sound.leaves others asserted unmasked hidden
  unfold FaultSide.Leaves at leaves ⊢
  rwa [FaultSide.levelAdd_level_ne env moved.symm]

/-- A shown class masked leaves its level, and is released where it is a FOLLOW event; the other levels stand. -/
theorem FaultUnit.Sound.masked (masks : settingOf env.map c = { settingOf map c with masked := true })
    (unmasked : (settingOf map c).masked = false) :
    let y := x.mapWritten env c (settingOf map c)
    x.Leaves env.vectorBase (settingOf map c).level (∀ d ∈ shownMask map x.unit (settingOf map c).level, d = c) y.port y.unit ∧
    (∀ k, k ≠ (settingOf map c).level → y.unit.level k = x.unit.level k) ∧
    (c.isCondition = false → (settingOf map c).release = .follow → x.unit.Released y.unit c) ∧
    (c.isCondition ∨ (settingOf map c).release = .latched → ∀ d, (y.unit.record d).asserted = (x.unit.record d).asserted) := by
  intro y
  have hidden : c ∉ shownMask env.map x.unit (settingOf map c).level := fun shows => by
    simpa [masks] using (mem_shownMask.1 shows).2.1
  have leaves := sound.leaves others asserted unmasked hidden
  have written := FaultSide.mapWritten_masked masks asserted unmasked
  have elsewhere : ∀ k, k ≠ (settingOf map c).level → (x.levelRemove env (settingOf map c).level).unit.level k = x.unit.level k :=
    fun k other => FaultSide.levelRemove_level_ne env other
  have records : ∀ d, ((x.levelRemove env (settingOf map c).level).unit.record d).asserted = (x.unit.record d).asserted :=
    fun d => by rw [FaultSide.levelRemove_record]
  have kind : isFollowEvent env.map c = isFollowEvent map c := by rw [isFollowEvent, masks, isFollowEvent]
  rw [kind] at written
  cases follows : isFollowEvent map c with
  | true =>
    rw [if_pos follows] at written
    obtain ⟨event, follow⟩ := isFollowEvent_iff.1 follows
    obtain ⟨off, rest⟩ := FaultUnit.setAsserted_released ((FaultSide.levelRemove_length env).trans sound.classes) c
    rw [show y = _ from written]
    refine ⟨leaves, elsewhere, fun _ _ => ⟨off, fun d other => (rest d other).trans (records d)⟩, fun stays => ?_⟩
    rw [isFollowEvent_eq_false_iff.2 stays] at follows
    exact nomatch follows
  | false =>
    rw [if_neg (by simp [follows])] at written
    rw [show y = _ from written]
    refine ⟨leaves, elsewhere, fun event follow => ?_, fun _ => records⟩
    rw [isFollowEvent_iff.2 ⟨event, follow⟩] at follows
    exact nomatch follows

/-- An asserted class unmasked joins its level; the other levels stand. -/
theorem FaultUnit.Sound.unmasked (unmasks : settingOf env.map c = { settingOf map c with masked := false })
    (masked : (settingOf map c).masked) :
    let y := x.mapWritten env c (settingOf map c)
    x.Joins map env c (settingOf map c).level x.port y ∧
    ∀ k, k ≠ (settingOf map c).level → y.unit.level k = x.unit.level k := by
  intro y
  rw [show y = _ from FaultSide.mapWritten_unmasked unmasks asserted masked]
  exact ⟨FaultSide.levelAdd_joins others sound.classes sound.levels (fun _ => rfl) rfl (by rw [unmasks]) asserted (by rw [unmasks])
    (by rw [unmasks]), fun k other => FaultSide.levelAdd_level_ne env other⟩

/-- A condition set FOLLOW without its cause is released, and leaves the level that showed it (R161, R171). -/
theorem FaultUnit.Sound.follow_released (follows : settingOf env.map c = { settingOf map c with release := .follow })
    (latched : (settingOf map c).release = .latched) (kind : c.isCondition) (cause : (x.unit.record c).cause = false) :
    let y := x.mapWritten env c (settingOf map c)
    x.unit.Released y.unit c ∧
    ((settingOf map c).masked = false → x.Leaves env.vectorBase (settingOf map c).level
      (∀ d ∈ shownMask map x.unit (settingOf map c).level, d = c) y.port y.unit) ∧
    ((settingOf map c).masked → y.port = x.port ∧ y.unit.levels = x.unit.levels) ∧
    ∀ k, k ≠ (settingOf map c).level → y.unit.level k = x.unit.level k := by
  intro y
  have level : (settingOf env.map c).level = (settingOf map c).level := by rw [follows]
  have mark : (settingOf env.map c).masked = (settingOf map c).masked := by rw [follows]
  rw [show y = x.release env c from FaultSide.mapWritten_follow_released follows latched asserted kind cause]
  refine ⟨FaultSide.release_released env sound.classes, fun unmasked => ?_, fun masked => ?_, fun k other => ?_⟩
  · have record := fun d => FaultUnit.record_setAsserted sound.classes c d false
    have shows : c ∈ shownMask map x.unit (settingOf map c).level := mem_shownMask.2 ⟨asserted, unmasked, rfl⟩
    rw [FaultSide.release_shown env asserted (mark.trans unmasked), level]
    refine FaultSide.levelRemove_leaves env (x := { x with unit := x.unit.setAsserted c false }) sound.levels
      ((sound.level _).active (List.ne_nil_of_mem shows)).1 (shownMask_eq_nil_iff (fun at_level => ?_) fun d other => ?_)
    · have on := (mem_shownMask.1 at_level).1
      rw [record, if_pos rfl] at on
      exact nomatch on
    · rw [mem_shownMask, mem_shownMask, record, if_neg other, others d other]
  · rw [FaultSide.release_masked env (mark.trans masked)]
    exact ⟨rfl, rfl⟩
  · cases masked : (settingOf map c).masked with
    | true =>
      rw [FaultSide.release_masked env (mark.trans masked)]
      rfl
    | false =>
      rw [FaultSide.release_shown env asserted (mark.trans masked), level]
      exact FaultSide.levelRemove_level_ne env (x := { x with unit := x.unit.setAsserted c false }) other

end

/-! ## The alert map after the write -/

/-- What the fault unit reads once the alert map's items of a class have been changed by `f`. -/
def State.remapped (s : State) (c : FaultClass) (f : AlertSetting → AlertSetting) : FaultEnv :=
  (s.withChassis (s.store.chassis.modifyAlert c f)).faultEnv

theorem State.remapped_same {s : State} (length : s.store.chassis.alertMap.length = 12) (c : FaultClass)
    (f : AlertSetting → AlertSetting) : settingOf (s.remapped c f).map c = f (settingOf s.store.chassis.alertMap c) :=
  s.store.chassis.setting_modifyAlert_same c f length

theorem State.remapped_others (s : State) (c : FaultClass) (f : AlertSetting → AlertSetting) (d : FaultClass) (other : d ≠ c) :
    settingOf (s.remapped c f).map d = settingOf s.store.chassis.alertMap d := s.store.chassis.setting_modifyAlert_ne f other

/-- A code names its release type. -/
theorem ReleaseType.code_eq_zero_iff {r : ReleaseType} : r.code = 0 ↔ r = .latched := by cases r <;> decide

theorem ReleaseType.code_eq_one_iff {r : ReleaseType} : r.code = 1 ↔ r = .follow := by cases r <;> decide

theorem flagCode_eq_one_iff {b : Bool} : flagCode b = 1 ↔ b = true := by cases b <;> decide

theorem flagCode_eq_zero_iff {b : Bool} : flagCode b = 0 ↔ b = false := by cases b <;> decide

end Sys2Proof.Machine

namespace Sys2Proof.Proofs
open Sys2Proof.Machine

/-- Settles O47: the write reaches one item of the class, and the fault unit treats the class by that item. -/
theorem alertMapWritten : Obligations.AlertMapWritten := by
  unfold Obligations.AlertMapWritten
  intro s tag item value c part still sound number listed inRange
  obtain ⟨d, written⟩ := s.store.chassis.write_alertItem c listed inRange
  obtain ⟨length, own⟩ := s.faultsSound_iff.1 sound
  have unchanged {y : FaultSide} (same : y = s.faultSide) : y.unit = s.faults ∧ y.port = s.portA := by
    rw [same]
    exact ⟨rfl, rfl⟩
  obtain ⟨capture, captures, -⟩ := FaultUnit.ledger_eq (FaultSide.mapWritten_ledger (s.withChassis d).faultEnv s.faultSide c
    (settingOf s.store.chassis.alertMap c))
  refine ⟨_, exec_alertMapWrite still listed number written tag, rfl, capture, captures, fun k => ?marks, fun released => ?released,
    fun asserted isPart => ?level, fun asserted isPart => ?masked, fun asserted isPart => ?release⟩
  case marks =>
    obtain ⟨_, record⟩ := FaultSide.mapWritten_record (env := (s.withChassis d).faultEnv) (c := c) (x := s.faultSide)
      (settingOf s.store.chassis.alertMap c) sound.classes k
    exact ⟨(congrArg ClassRecord.occurrences record).trans rfl, (congrArg ClassRecord.cause record).trans rfl⟩
  case released => exact unchanged (FaultSide.mapWritten_released released)
  case level =>
    subst isPart
    obtain ⟨l, code, rfl⟩ := Chassis.written_of_write written
    have setting := State.remapped_same length c fun a => { a with level := l }
    have others := s.remapped_others c fun a => { a with level := l }
    refine ⟨fun stands => unchanged ?_, fun k unmasked same moved => ?_⟩
    · rcases stands with masked | same
      · exact FaultSide.mapWritten_level_masked setting masked
      · exact FaultSide.mapWritten_same (setting.trans (by rw [Fin.ext (code.trans same)]))
    · obtain rfl : k = l := Fin.ext (same.trans code.symm)
      exact own.level_moved (x := s.faultSide) others asserted setting unmasked moved
  case masked =>
    subst isPart
    obtain ⟨b, code, rfl⟩ := Chassis.written_of_write written
    have setting := State.remapped_same length c fun a => { a with masked := b }
    have others := s.remapped_others c fun a => { a with masked := b }
    rw [← code, flagCode_eq_one_iff, flagCode_eq_zero_iff]
    refine ⟨fun same => unchanged (FaultSide.mapWritten_same (setting.trans ?_)), fun unmasked set => ?_, fun masked cleared => ?_⟩
    · rw [← Bool.eq_iff_iff.2 same]
    · subst set
      exact own.masked (x := s.faultSide) others asserted setting unmasked
    · subst cleared
      exact own.unmasked (x := s.faultSide) others asserted setting masked
  case release =>
    subst isPart
    obtain ⟨r, code, rfl⟩ := Chassis.written_of_write written
    have setting := State.remapped_same length c fun a => { a with release := r }
    have others := s.remapped_others c fun a => { a with release := r }
    rw [← code, ReleaseType.code_eq_zero_iff, ReleaseType.code_eq_one_iff]
    refine ⟨fun stands => unchanged ?_, fun follow latched => ?_⟩
    · cases r with
      | latched => exact FaultSide.mapWritten_latched setting
      | follow =>
        rcases stands with latched | same
        · exact nomatch latched
        · exact FaultSide.mapWritten_same (setting.trans (by rw [← same]))
    · subst follow
      refine ⟨fun kind cause => unchanged (FaultSide.mapWritten_follow_cause setting kind cause),
        fun kind cause => own.follow_released (x := s.faultSide) others asserted setting latched kind cause,
        fun kind masked => ?_, fun kind unmasked => unchanged (FaultSide.mapWritten_follow_shown setting kind unmasked)⟩
      have cleared := FaultSide.mapWritten_follow_masked (x := s.faultSide) setting latched asserted kind masked
      refine ⟨?_, congrArg FaultSide.port cleared, congrArg (·.unit.levels) cleared⟩
      exact (congrArg (s.faults.Released ·.unit c) cleared).mpr (FaultUnit.setAsserted_released sound.classes c)

end Sys2Proof.Proofs
end

section
/-! Replies (R179, R180, R185): the eight bytes of a reply frame, its offer to Port A's Q0 and the count of its loss. -/

namespace Sys2Proof.Machine

/-! ## The reply frame (R179, R189) -/

/-- Bytes beyond a frame's length read as the zeros that fill it (R175, R179). -/
theorem dataByte_append_zeros (data : List Byte) (n i : Nat) : dataByte (data ++ List.replicate n 0) i = dataByte data i := by
  rcases Nat.lt_or_ge i data.length with inside | beyond
  · simp [dataByte, List.getD_eq_getElem?_getD, List.getElem?_append_left inside]
  · rw [dataByte, List.getD_append_right _ _ _ _ beyond, dataByte, List.getD_eq_default _ _ beyond]
    exact List.getElem?_getD_replicate_default_eq ..

/-- The data bytes of a reply stand after code, tag and result, the unused ones 0 (R179). -/
theorem dataByte_replyFrame (sender : Sender) (code tag : Byte) (result : Result) (data : List Byte) (i : Nat) :
    dataByte (replyFrame sender code tag result data).data (3 + i) = dataByte data i := by
  rw [Nat.add_comm]
  exact dataByte_append_zeros data _ i

theorem replyFrame_length (sender : Sender) (code tag : Byte) (result : Result) {data : List Byte} (fits : data.length ≤ 5) :
    (replyFrame sender code tag result data).data.length = 8 := by
  simp [replyFrame]
  omega

/-- Every result code is read back from its byte (R189). -/
theorem Result.toNat_byteOf_code (r : Result) : (byteOf r.code).toNat = r.code := by cases r <;> rfl

/-! ## The offer and its counts (R180, R185) -/

theorem Port.takesQ0_eq_false_iff (p : Port) : p.takesQ0 = false ↔ p.mode = .off ∨ 16 ≤ p.q0.length := by
  rw [Port.takesQ0, decide_eq_false_iff_not, not_and_or, not_not, Nat.not_lt]
  rfl

/-- A reply reaches Port A by its offer and the command unit by its counts. -/
theorem State.reply_eq (s : State) (sender : Sender) (code tag : Byte) (result : Result) (data : List Byte) :
    s.reply sender code tag result data = { s with
      portA := s.portA.offer .q0 (replyFrame sender code tag result data)
      commands := { s.commands with
        repliesOffered := bump s.commands.repliesOffered
        repliesLost := if s.portA.mode = .off ∨ 16 ≤ s.portA.q0.length then bump s.commands.repliesLost
          else s.commands.repliesLost } } := by
  simp only [← Port.takesQ0_eq_false_iff]
  unfold State.reply State.offerReply CommandCounts.offerReply
  cases s.portA.takesQ0 <;> rfl

end Sys2Proof.Machine

namespace Sys2Proof.Proofs
open Sys2Proof.Machine

/-- Settles O38: the reply frame, field by field, and the one place where it is offered and counted. -/
theorem replyOffered : Obligations.ReplyOffered := by
  unfold Obligations.ReplyOffered
  intro s sender code tag result data fits
  refine ⟨replyFrame sender code tag result data, replyFrame_length _ _ _ _ fits, ?ident, rfl, rfl, result.toNat_byteOf_code,
    dataByte_replyFrame sender code tag result data, s.reply_eq ..⟩
  case ident => cases sender <;> rfl

end Sys2Proof.Proofs
end

section
/-! Command frames (R175, R176, R189): the frame of a command reads back as the command, and what the command unit does with a frame
that an entry has admitted. -/

namespace Sys2Proof.Machine

/-! ## A command's frame (R189) -/

/-- The frame of a command, with any bytes after its operands, reads as the command: the code names it, and each operand stands at the
position it is read from. -/
theorem commandOf_encodeCommand {c : Instr} {data : List Byte} (encoded : encodeCommand c = some data) (extra : List Byte) :
    commandOf c.sender (data ++ extra) = some c := by
  cases c with
  | writePageEntry _ _ _ _ value | writeRouteField _ _ _ value | writeChassisSetting _ _ value =>
    cases encoded
    simp [commandOf, bytesOf]
  | _ => cases encoded <;> rfl

/-- A command's frame has a code and a tag and fits in eight bytes (R175). -/
theorem encodeCommand_length {c : Instr} {data : List Byte} (encoded : encodeCommand c = some data) :
    2 ≤ data.length ∧ data.length ≤ 8 := by
  cases c <;> cases encoded <;> simp [bytesOf]

/-! ## The command a frame spells, and its sender (R175, R176) -/

/-- What a frame spells, where its sender's privilege permits the code, is a command that frames carry and that comes in on the
sender's identifier. -/
theorem commandOf_permitted {sender : Sender} {data : List Byte} {c : Instr} (named : commandOf sender data = some c)
    (permitted : sender = .service ∨ dashPermits (dataByte data 0)) : c.sender = sender ∧ (encodeCommand c).isSome := by
  rcases permitted with rfl | permitted
  · unfold commandOf at named
    simp only at named
    split at named <;> cases named <;> exact ⟨rfl, rfl⟩
  · rcases of_decide_eq_true permitted with code | code | code <;>
      simp only [commandOf, code] at named <;> cases named <;> exact ⟨rfl, rfl⟩

/-! ## A frame taken (R175, R176) -/

section

variable (s : State) (sender : Sender) {data : List Byte}

/-- A frame without a code or a tag is counted, and nothing else happens (R175). -/
theorem State.takeCommandFrame_short (short : data.length < 2) :
    s.takeCommandFrame sender data = { s.takenFrom sender with
      commands := { (s.takenFrom sender).commands with malformed := bump (s.takenFrom sender).commands.malformed } } := by
  rw [← State.countTaken_eq]
  exact if_pos short

theorem State.takeCommandFrame_long (long : 2 ≤ data.length) :
    s.takeCommandFrame sender data = (s.takenFrom sender).runFrame sender data := by
  rw [← State.countTaken_eq]
  exact if_neg (Nat.not_lt.2 long)

end

section

variable (s : State) {sender : Sender} {data : List Byte}

theorem State.runFrame_notPermitted (dash : sender = .dash) (refused : ¬ dashPermits (dataByte data 0)) :
    s.runFrame sender data = s.refuseNotPermitted (dataByte data 0) (dataByte data 1) := by
  simp [State.runFrame, dash, refused]

variable (permitted : sender = .service ∨ dashPermits (dataByte data 0))
include permitted

theorem State.runFrame_unknown (unknown : commandOf sender data = none) :
    s.runFrame sender data = s.refuseBadCommand sender (dataByte data 0) (dataByte data 1) := by
  rcases permitted with rfl | permitted
  · simp [State.runFrame, unknown]
  · simp [State.runFrame, permitted, unknown]

theorem State.runFrame_named {c : Instr} (named : commandOf sender data = some c) : s.runFrame sender data = s.runCommand c := by
  rcases permitted with rfl | permitted
  · simp [State.runFrame, named]
  · simp [State.runFrame, permitted, named]

/-- The command that a frame spells does what its own row does, on the state that has not yet counted the frame (R175; log 1). -/
theorem State.runFrame_exec {c : Instr} (named : commandOf sender data = some c) :
    .next ((s.takenFrom sender).runFrame sender data) = exec c s := by
  obtain ⟨rfl, carried⟩ := commandOf_permitted named permitted
  rw [exec_carried carried, State.countTaken_eq, State.runFrame_named _ permitted named]

end

/-- An admitted frame of an entry of class DASH_COMMAND or SERVICE_COMMAND goes to the command unit (R24, R175). -/
theorem execReceivedFrame_command {s : State} {p : PortId} {f : Frame} {i : Nat} {sender : Sender} (matched : s.Matched p f i)
    (budget : s.HasBudget i)
    (cls : (s.route i).fields.cls = match sender with
      | .dash => .dashCommand
      | .service => .serviceCommand) :
    exec (.receivedFrame p f) s = .next ((s.admitted p i).takeCommandFrame sender f.data) := by
  refine (execReceivedFrame_admitted matched budget).trans (congrArg Host.Outcome.next ?_)
  unfold State.treat
  cases sender <;> rw [cls]

end Sys2Proof.Machine

namespace Sys2Proof.Proofs
open Sys2Proof.Machine

/-- Settles O41: the decoder reads each operand where the encoder puts it. -/
theorem commandFrameRoundTrip : Obligations.CommandFrameRoundTrip := by
  unfold Obligations.CommandFrameRoundTrip
  exact fun c data extra encoded => ⟨commandOf_encodeCommand encoded extra, encodeCommand_length encoded⟩

/-- Settles O40: an admitted command frame is the command unit's, which checks length, privilege and code in this order. -/
theorem commandFrameTaken : Obligations.CommandFrameTaken := by
  unfold Obligations.CommandFrameTaken
  intro s p f i sender matched budget cls u v code permitted
  have taken : exec (.receivedFrame p f) s = .next (u.takeCommandFrame sender f.data) :=
    execReceivedFrame_command matched budget cls
  have permits : permitted ↔ sender = .service ∨ dashPermits code := by simp [permitted, dashPermits]
  rw [taken]
  refine ⟨fun short => ?malformed, fun long refused => ?notPermitted, fun long allowed unknown => ?badCommand,
    fun long allowed c named => ?command⟩
  case malformed => rw [u.takeCommandFrame_short sender short]
  all_goals rw [u.takeCommandFrame_long sender long]
  case notPermitted =>
    obtain ⟨notService, notPermits⟩ := not_or.1 (mt permits.2 refused)
    have dash : sender = .dash := by cases sender <;> trivial
    rw [v.runFrame_notPermitted dash notPermits]
    rfl
  case badCommand =>
    rw [v.runFrame_unknown (permits.1 allowed) unknown]
    rfl
  case command => exact u.runFrame_exec (permits.1 allowed) named

end Sys2Proof.Proofs
end

section
/-! The governor restart (R184): the restart values of each block, and what the absence of causes does to the fault unit and to Port A
(R158, R160, R168, R173). -/

namespace Sys2Proof.Machine

/-! ## A record changed, whatever records there are -/

/-- A change of a class record is read, unless the fault unit holds no record of the class. -/
theorem FaultUnit.record_modifyRecord_cases (u : FaultUnit) (c : FaultClass) (f : ClassRecord → ClassRecord) :
    (u.modifyRecord c f).record c = f (u.record c) ∨
      ((u.modifyRecord c f).record c = releasedClass ∧ u.record c = releasedClass) := by
  unfold FaultUnit.modifyRecord FaultUnit.record
  cases held : u.classes[c.index]? <;> simp [List.getD_eq_getElem?_getD, held]

/-- A change of a level record is read, unless the fault unit holds no record of the level. -/
theorem FaultUnit.level_modifyLevel_cases (u : FaultUnit) (l : Level) (f : LevelRecord → LevelRecord) :
    (u.modifyLevel l f).level l = f (u.level l) ∨
      ((u.modifyLevel l f).level l = idleLevel ∧ u.level l = idleLevel) := by
  unfold FaultUnit.modifyLevel FaultUnit.level
  cases held : u.levels[l.val]? <;> simp [List.getD_eq_getElem?_getD, held]

/-- A release leaves the causes. -/
theorem FaultUnit.setAsserted_cause (u : FaultUnit) (c d : FaultClass) (b : Bool) :
    ((u.setAsserted c b).record d).cause = (u.record d).cause := by
  by_cases same : d = c
  · subst same
    rcases u.record_modifyRecord_cases d (fun r => { r with asserted := b }) with changed | ⟨changed, missing⟩
    · exact (congrArg ClassRecord.cause changed).trans rfl
    · rw [FaultUnit.setAsserted, changed, missing]
  · exact congrArg ClassRecord.cause (u.record_modifyRecord_ne _ same)

/-- A cause marked absent is absent, and the others stand. -/
theorem FaultSide.cleared_cause (c d : FaultClass) (x : FaultSide) :
    ((x.cleared c).unit.record d).cause = ((x.unit.record d).cause && decide (d ≠ c)) := by
  by_cases same : d = c
  · subst same
    rcases x.unit.record_modifyRecord_cases d (fun r => { r with cause := false }) with changed | ⟨changed, -⟩
    · exact (congrArg ClassRecord.cause changed).trans (by simp)
    · exact (congrArg ClassRecord.cause changed).trans (by simp [releasedClass])
  · exact (congrArg ClassRecord.cause (x.unit.record_modifyRecord_ne _ same)).trans (by simp [same])

/-! ## The final frames of emptied levels (R168) -/

/-- From `x` to `y` the levels listed have emptied: each passed from ACTIVE to IDLE, once, with its final frame to Port A. No other
level, no cause and nothing captured has changed. -/
structure FaultSide.Emptied (env : FaultEnv) (x y : FaultSide) (levels : List Level) : Prop where
  apart : levels.Nodup
  passed : ∀ l ∈ levels, (x.unit.level l).phase = .active ∧ (y.unit.level l).phase = .idle
  others : ∀ l, l ∉ levels → (y.unit.level l).phase = (x.unit.level l).phase
  port : y.port = levels.foldl (fun q l => q.offerAlert l (alertFrame env.vectorBase l [])) x.port
  capture : y.unit.capture = x.unit.capture

namespace FaultSide.Emptied

variable {env : FaultEnv} {x y z : FaultSide} {ls ks : List Level}

theorem none (port : y.port = x.port) (levels : y.unit.levels = x.unit.levels) (capture : y.unit.capture = x.unit.capture) :
    Emptied env x y [] :=
  ⟨.nil, nofun, fun l _ => by simp [FaultUnit.level, levels], port, capture⟩

/-- Levels that empty one after another are different levels: an emptied one is IDLE. -/
theorem trans (h : Emptied env x y ls) (h' : Emptied env y z ks) : Emptied env x z (ls ++ ks) := by
  have disjoint : ∀ l ∈ ls, l ∉ ks := fun l first again => nomatch (h.passed l first).2.symm.trans (h'.passed l again).1
  refine ⟨h.apart.append h'.apart disjoint, fun l m => ?_, fun l absent => ?_, ?_, h'.capture.trans h.capture⟩
  · rcases List.mem_append.1 m with first | second
    · exact ⟨(h.passed l first).1, (h'.others l (disjoint l first)).trans (h.passed l first).2⟩
    · have fresh : l ∉ ls := fun first => disjoint l first second
      exact ⟨(h.others l fresh).symm.trans (h'.passed l second).1, (h'.passed l second).2⟩
  · obtain ⟨first, second⟩ := not_or.1 (mt List.mem_append.2 absent)
    exact (h'.others l second).trans (h.others l first)
  · rw [h'.port, h.port, List.foldl_append]

end FaultSide.Emptied

section

variable (env : FaultEnv)

/-- A removal empties its level or does nothing (R168). -/
theorem FaultSide.levelRemove_emptied_levels (l : Level) (x : FaultSide) :
    ∃ levels, FaultSide.Emptied env x (x.levelRemove env l) levels := by
  by_cases emptied : (x.unit.level l).phase = .active ∧ shownMask env.map x.unit l = []
  · have removed := FaultSide.levelRemove_emptied env emptied.1 emptied.2
    refine ⟨[l], List.nodup_singleton l, fun k m => ?_, fun k other => ?_, congrArg FaultSide.port removed,
      congrArg (·.unit.capture) removed⟩
    · obtain rfl := List.mem_singleton.1 m
      refine ⟨emptied.1, ?_⟩
      rw [removed]
      rcases FaultUnit.level_modifyLevel_cases
        (x.unit.modifyLevel k (fun r => { r with phase := .idle, repeatTimer := none })) k
        (fun r => { r with frames := bump r.frames }) with counted | ⟨missing, -⟩
      · rw [counted]
        rcases x.unit.level_modifyLevel_cases k (fun r => { r with phase := .idle, repeatTimer := none }) with idle | ⟨missing, -⟩
        · rw [idle]
        · rw [missing]
          rfl
      · rw [missing]
        rfl
    · exact congrArg LevelRecord.phase (FaultSide.levelRemove_level_ne env (mt List.mem_singleton.2 other))
  · rw [FaultSide.levelRemove, if_neg emptied]
    exact ⟨[], .none rfl rfl rfl⟩

/-- A release leaves the causes, and of the levels empties at most its own (R160). -/
theorem FaultSide.release_emptied (c : FaultClass) (x : FaultSide) :
    (∃ levels, FaultSide.Emptied env x (x.release env c) levels) ∧
      ∀ d, ((x.release env c).unit.record d).cause = (x.unit.record d).cause := by
  constructor
  · unfold FaultSide.release
    simp only
    split
    · obtain ⟨levels, emptied⟩ :=
        FaultSide.levelRemove_emptied_levels env (settingOf env.map c).level { x with unit := x.unit.setAsserted c false }
      have cleared : FaultSide.Emptied env x { x with unit := x.unit.setAsserted c false } [] := .none rfl rfl rfl
      exact ⟨levels, cleared.trans emptied⟩
    · exact ⟨[], .none rfl rfl rfl⟩
  · intro d
    rw [FaultSide.release_frame]
    exact x.unit.setAsserted_cause c d false

/-! ## Causes handed absent (R158, R173) -/

/-- A cause handed absent is absent, the others stand, and the levels it empties have their final frames. -/
theorem FaultSide.absent_emptied (c : FaultClass) (x : FaultSide) :
    (∃ levels, FaultSide.Emptied env x (x.takeHandOff env (.absent c)) levels) ∧
      ∀ d, ((x.takeHandOff env (.absent c)).unit.record d).cause = ((x.unit.record d).cause && decide (d ≠ c)) := by
  cases present : (x.unit.record c).cause with
  | false =>
    rw [FaultSide.takeHandOff_idle env x (.absent c) present]
    refine ⟨⟨[], .none rfl rfl rfl⟩, fun d => ?_⟩
    by_cases same : d = c <;> simp [same, present]
  | true =>
    have cleared : FaultSide.Emptied env x (x.cleared c) [] := .none rfl rfl rfl
    by_cases releases : (x.unit.record c).asserted ∧ (settingOf env.map c).release = .follow
    · obtain ⟨asserted, follow⟩ := releases
      rw [FaultSide.takeHandOff_absent_released present asserted follow]
      obtain ⟨⟨levels, emptied⟩, causes⟩ := FaultSide.release_emptied env c (x.cleared c)
      exact ⟨⟨levels, cleared.trans emptied⟩, fun d => (causes d).trans (FaultSide.cleared_cause c d x)⟩
    · have kept : (x.unit.record c).asserted → (settingOf env.map c).release = .latched := by
        intro asserted
        cases release : (settingOf env.map c).release with
        | latched => rfl
        | follow => exact absurd ⟨asserted, release⟩ releases
      rw [FaultSide.takeHandOff_absent_kept present kept]
      exact ⟨⟨[], cleared⟩, fun d => FaultSide.cleared_cause c d x⟩

/-- The hand-offs of absent causes alone (R158). -/
def OnlyAbsent (hs : List HandOff) : Prop := ∀ h ∈ hs, ∃ c, h = .absent c

/-- Several causes handed absent, in whatever order, are absent, the others stand, and each level that empties has one final frame. -/
theorem FaultSide.takeAll_absent {hs : List HandOff} (absent : OnlyAbsent hs) (x : FaultSide) :
    (∃ levels, FaultSide.Emptied env x (x.takeAll env hs) levels) ∧
      ∀ d, ((x.takeAll env hs).unit.record d).cause = ((x.unit.record d).cause && decide (HandOff.absent d ∉ hs)) := by
  induction hs generalizing x with
  | nil => exact ⟨⟨[], .none rfl rfl rfl⟩, fun d => by simp [FaultSide.takeAll]⟩
  | cons h hs ih =>
    obtain ⟨c, rfl⟩ := absent h List.mem_cons_self
    obtain ⟨⟨first, emptied⟩, causes⟩ := FaultSide.absent_emptied env c x
    obtain ⟨⟨rest, emptied'⟩, causes'⟩ :=
      ih (fun g m => absent g (List.mem_cons_of_mem _ m)) (x.takeHandOff env (.absent c))
    refine ⟨⟨first ++ rest, emptied.trans emptied'⟩, fun d => (causes' d).trans ?_⟩
    simp [causes d, Bool.and_assoc]

end

/-- The absent causes of one event, taken in the order that the free choices pick: none is left, and each level that empties has one
final frame (R158, R159, R168). -/
theorem State.handOffs_absent (s : State) {hs : List HandOff} (absent : OnlyAbsent hs) :
    (∃ levels, FaultSide.Emptied s.faultEnv s.faultSide (s.handOffs hs).faultSide levels) ∧
      ∀ c, HandOff.absent c ∈ hs → ((s.handOffs hs).faults.record c).cause = false := by
  let live := hs.filter (HandOff.matters s.faults)
  have picked : ∀ h, h ∈ freeOrder live.length s.draws live ↔ h ∈ hs ∧ h.matters s.faults := fun h =>
    (freeOrder_perm ..).mem_iff.trans List.mem_filter
  obtain ⟨emptied, causes⟩ := FaultSide.takeAll_absent s.faultEnv (hs := freeOrder live.length s.draws live)
    (fun h m => absent h ((picked h).1 m).1) s.faultSide
  refine ⟨emptied, fun c listed => (causes c).trans ?_⟩
  cases cause : (s.faults.record c).cause with
  | false => exact Bool.and_eq_false_iff.2 (.inl cause)
  | true => simp [picked, listed, HandOff.matters, cause]

/-! ## The blocks (R22, R36, R51, R82, R99, R118) -/

/-- The void mark of a job after a restart: a SEAL_STEP keeps its own (R36). -/
def Job.restartVoid : Job → Bool → Bool
  | .sealStep _, v => v
  | .lean _, _ => true
  | .ceiling _, _ => true

theorem Engine.restart_running {e : Engine} {j : Job} {v : Bool} (running : e.running = some ⟨j, v⟩) :
    e.restart.running = some ⟨j, j.restartVoid v⟩ := by
  simp only [Engine.restart, running]
  cases j <;> rfl

theorem Forwarder.restart_eq (f : Forwarder) :
    f.restart = { f with
      slot := none, holdTimer := none, alive := 0
      counts := { f.counts with
        restartDiscarded := if f.slot = none then f.counts.restartDiscarded else bump f.counts.restartDiscarded } } := by
  unfold Forwarder.restart
  cases f.slot <;> rfl

theorem Governor.restart_eq (g : Governor) (now : Stamp) :
    g.restart now = { g with
      state := .start, startTimer := .running now, committing := none, withdrawn := false
      counts := { g.counts with
        startEntries := if g.state = .start then g.counts.startEntries else bump g.counts.startEntries } } := by
  unfold Governor.restart
  by_cases start : g.state = .start <;> simp [start, GovCounts.enter]

/-- A restart hands off absent causes alone (R173). -/
theorem restartHandOffs_absent : OnlyAbsent restartHandOffs := by
  intro h listed
  simp only [restartHandOffs, List.mem_cons, List.not_mem_nil, or_false] at listed
  rcases listed with rfl | rfl | rfl | rfl <;> exact ⟨_, rfl⟩

/-- The part when every owner has taken a restart, before the fault unit takes the causes (R184). -/
def State.blocksRestarted (s : State) : State :=
  { s.restartBlocks with commands := { s.commands with restarts := bump s.commands.restarts } }

theorem State.restart_eq (s : State) : s.restart = s.blocksRestarted.handOffs restartHandOffs := rfl

/-- RESTART GOVERNOR at standstill is the restart and the reply DONE from the state it leaves (R177, R184). -/
theorem exec_restartGovernor {s : State} (still : s.standstill) (tag : Byte) :
    exec (.restartGovernor tag) s =
      .next (((s.takenFrom .service).blocksRestarted.handOffs restartHandOffs).reply .service 0x09 tag .done []) := by
  rw [← State.restart_eq]
  exact congrArg Host.Outcome.next (State.gated_taken still 0x09 tag _)

end Sys2Proof.Machine

namespace Sys2Proof.Proofs
open Sys2Proof.Machine

/-- Settles O50: the blocks take their restart values, and the fault unit then takes the four absent causes. -/
theorem governorRestarted : Obligations.GovernorRestarted := by
  unfold Obligations.GovernorRestarted
  intro s tag still
  obtain ⟨⟨levels, emptied⟩, causes⟩ := (s.takenFrom .service).blocksRestarted.handOffs_absent restartHandOffs_absent
  refine ⟨_, exec_restartGovernor still tag, ?streams, rfl, rfl,
    s.forwarder.restart_eq, s.governor.restart_eq s.now, rfl, rfl, rfl, ?job, ?idle, ?causes,
    ⟨levels, emptied.apart, fun l m => (emptied.passed l m).2, emptied.port⟩, emptied.capture, rfl, rfl, rfl, rfl, rfl, rfl⟩
  case streams => intro k; cases k <;> rfl
  case causes => exact fun c listed => causes c (List.mem_map_of_mem (f := HandOff.absent) listed)
  case job =>
    intro j v running
    refine (Engine.restart_running running).trans ?_
    cases j <;> rfl
  case idle => exact s.engine.restart_frame.1.2

end Sys2Proof.Proofs
end

section
/-! What READ STATE carries (R181, R189): the bytes of each kind of field, and the parts that the fields of each item fill. -/

namespace Sys2Proof.Machine

/-! ## Fields byte by byte (R186, R189) -/

@[simp] theorem oneByte_eq (n : Nat) : oneByte n = [byteOf n] := rfl
@[simp] theorem flagField_eq (x : Bool) : flagField x = [byteOf (flagCode x)] := rfl

/-- An unsigned field of two bytes: the high byte, then the low one. -/
theorem twoBytes_eq (n : Nat) : twoBytes n = [byteOf (n / 256), byteOf n] := by
  have low : (BitVec.ofNat 16 n).extractLsb' 0 8 = BitVec.ofNat 8 n := by
    apply BitVec.eq_of_toNat_eq
    simp
  have high : (BitVec.ofNat 16 n).extractLsb' 8 8 = BitVec.ofNat 8 (n / 256) := by
    apply BitVec.eq_of_toNat_eq
    simp [Nat.shiftRight_eq_div_pow]
    omega
  simp [twoBytes, bytesOf, low, high, byteOf]

/-- A signed field of two bytes is that of its value modulo 65536. -/
theorem twoBytesSigned_eq (x : Int) : twoBytesSigned x = [byteOf ((x % 65536).toNat / 256), byteOf (x % 65536).toNat] := by
  have word : BitVec.ofInt 16 x = BitVec.ofNat 16 (x % 65536).toNat := by
    apply BitVec.eq_of_toNat_eq
    simp
    omega
  rw [twoBytesSigned, word]
  exact twoBytes_eq _

/-- A 16-bit word is sent as the number it holds. -/
theorem bytesOf_eq (v : Half) : bytesOf v = [byteOf (v.toNat / 256), byteOf v.toNat] := by
  rw [← twoBytes_toNat, twoBytes_eq]

/-! ## Optional values (R189; log 11) -/

/-- A byte after its presence byte, or the two zeros of an absent one. -/
def presentByte : Option Byte → List Byte
  | some y => [1, y]
  | none => [0, 0]

/-- An unsigned value of two bytes after its presence byte, or the three zeros of an absent one. -/
def presentTwo : Option Nat → List Byte
  | some n => [1, byteOf (n / 256), byteOf n]
  | none => [0, 0, 0]

/-- One of three signed values of two bytes, named by `f`, after its presence byte, or the three zeros of an absent one. -/
def presentSigned (f : Int × Int × Int → Int) : Option (Int × Int × Int) → List Byte
  | some w => [1, byteOf ((f w % 65536).toNat / 256), byteOf (f w % 65536).toNat]
  | none => [0, 0, 0]

@[simp] theorem presentByte_length (x : Option Byte) : (presentByte x).length = 2 := by cases x <;> rfl
@[simp] theorem presentTwo_length (x : Option Nat) : (presentTwo x).length = 3 := by cases x <;> rfl
@[simp] theorem presentSigned_length (f : Int × Int × Int → Int) (x : Option (Int × Int × Int)) :
    (presentSigned f x).length = 3 := by cases x <;> rfl

@[simp] theorem optionalField_one {α : Type} (f : α → Byte) (x : Option α) :
    optionalField 1 (x.map fun a => [f a]) = presentByte (x.map f) := by cases x <;> rfl

@[simp] theorem optionalField_two {α : Type} (f : α → Nat) (x : Option α) :
    optionalField 2 (x.map fun a => [byteOf (f a / 256), byteOf (f a)]) = presentTwo (x.map f) := by cases x <;> rfl

@[simp] theorem optionalField_bytesOf (x : Option Half) : optionalField 2 (x.map bytesOf) = presentTwo (x.map (·.toNat)) := by
  cases x <;> simp [optionalField, presentTwo, bytesOf_eq]

/-- A committing decision as a field: state and page after the presence byte. -/
def decisionBytes : Option Decision → List Byte
  | some d => [1, byteOf d.state.code, byteOf d.page]
  | none => [0, 0, 0]

@[simp] theorem decisionBytes_length (d : Option Decision) : (decisionBytes d).length = 3 := by cases d <;> rfl

@[simp] theorem optionalField_decision (d : Option Decision) :
    optionalField 2 (d.map fun d => [byteOf d.state.code, byteOf d.page]) = decisionBytes d := by cases d <;> rfl

/-- The seal record as a field: page, step and tag after the presence byte. -/
def sealBytes : Option SealRecord → List Byte
  | some r => [1, byteOf r.page, byteOf r.step, r.tag]
  | none => [0, 0, 0, 0]

@[simp] theorem sealBytes_length (r : Option SealRecord) : (sealBytes r).length = 4 := by cases r <;> rfl

@[simp] theorem optionalField_seal (r : Option SealRecord) :
    optionalField 3 (r.map fun r => [byteOf r.page, byteOf r.step, r.tag]) = sealBytes r := by cases r <;> rfl

/-! ## Timers (R189) -/

/-- A timer by its start: status 0 and the time remaining, or status 1 when stopped. -/
def timerBytes (now : Stamp) (setting : Nat) : Option Stamp → List Byte
  | some start => [0, byteOf ((setting - ageOf now start) / 256), byteOf (setting - ageOf now start)]
  | none => [1, 0, 0]

/-- The START timer, which may also be expired, status 2. -/
def startTimerBytes (now : Stamp) : StartTimer → List Byte
  | .running start => [0, byteOf ((3000 - ageOf now start) / 256), byteOf (3000 - ageOf now start)]
  | .stopped => [1, 0, 0]
  | .expired => [2, 0, 0]

@[simp] theorem timerBytes_length (now : Stamp) (setting : Nat) (x : Option Stamp) : (timerBytes now setting x).length = 3 := by
  cases x <;> rfl
@[simp] theorem startTimerBytes_length (now : Stamp) (x : StartTimer) : (startTimerBytes now x).length = 3 := by cases x <;> rfl

@[simp] theorem timerField_eq (now : Stamp) (setting : Nat) (x : Option Stamp) :
    timerField now setting x = timerBytes now setting x := by
  cases x with
  | none => rfl
  | some start => simp [timerField, runningField, twoBytes_eq, timerBytes, timeRemaining]

@[simp] theorem startTimerField_eq (now : Stamp) (x : StartTimer) : startTimerField now x = startTimerBytes now x := by
  cases x with
  | stopped | expired => rfl
  | running start => simp [startTimerField, runningField, twoBytes_eq, startTimerBytes, timeRemaining, startSetting]

/-! ## The latest values of a stream (R181) -/

/-- The inertial values a record holds. -/
def inertialOf : Option Values → Option (Int × Int × Int)
  | some (.inertial roll yaw lateral) => some (roll, yaw, lateral)
  | _ => none

/-- The clamped flag of the torque request a record holds. -/
def clampedOf : Option Values → Option Byte
  | some (.torque _ clamped) => some (byteOf (flagCode clamped))
  | _ => none

/-- The selection a record holds. -/
def selectionOf : Option Values → Option (Nat × Nat × Bool)
  | some (.selection mode load traction) => some (mode, load, traction)
  | _ => none

theorem latestFields_inertial (x : Option Values) : latestFields .inertial x =
    [presentSigned (·.1) (inertialOf x), presentSigned (·.2.1) (inertialOf x), presentSigned (·.2.2) (inertialOf x)] := by
  rcases x with _ | (_ | _ | _ | _) <;> simp [latestFields, inertialOf, presentSigned, optionalField, twoBytesSigned_eq]

theorem latestFields_wheel {i : StreamId} (wheel : i = .wheelFront ∨ i = .wheelRear) (r : StreamRecord) :
    latestFields i r.latest = [presentTwo r.speed] := by
  unfold StreamRecord.speed
  rcases wheel with rfl | rfl <;> rcases r.latest with _ | (_ | _ | _ | _) <;>
    simp [latestFields, presentTwo, optionalField, twoBytes_eq]

theorem latestFields_torqueRequest (r : StreamRecord) :
    latestFields .torqueRequest r.latest = [presentTwo r.request, presentByte (clampedOf r.latest)] := by
  unfold StreamRecord.request
  rcases r.latest with _ | (_ | _ | _ | _) <;> simp [latestFields, presentTwo, presentByte, clampedOf, optionalField, twoBytes_eq]

theorem latestFields_riderSelect (x : Option Values) : latestFields .riderSelect x =
    [presentByte ((selectionOf x).map fun w => byteOf w.1), presentByte ((selectionOf x).map fun w => byteOf w.2.1),
      presentByte ((selectionOf x).map fun w => byteOf (flagCode w.2.2))] := by
  rcases x with _ | (_ | _ | _ | _) <;> simp [latestFields, selectionOf, presentByte, optionalField]

/-! ## The answer to READ STATE (R181) -/

/-- The parts of an item at a selector; no parts when either is out of range. -/
def State.itemParts (s : State) (item selector : Nat) : List (List Byte) := ((s.itemFields item selector).map (packParts [])).getD []

/-- READ STATE answers with the part it names, and BAD_OPERAND beyond the last. -/
theorem exec_readState_parts (s : State) (sender : Sender) (tag : Byte) {item selector : Byte} {parts : List (List Byte)}
    (known : s.itemParts item.toNat selector.toNat = parts) (part : Byte) :
    exec (.readState sender tag item selector part) s = .next (match parts[part.toNat]? with
      | some data => (s.takenFrom sender).reply sender 0x13 tag .done data
      | none => (s.takenFrom sender).reply sender 0x13 tag .badOperand []) := by
  subst known
  unfold State.itemParts
  cases fields : s.itemFields item.toNat selector.toNat with
  | none =>
    exact (exec_readState ..).trans (next_send
      (State.readItem_refused (s := s.takenFrom sender) fun _ known => nomatch known.symm.trans fields) ..)
  | some fields' =>
    cases found : (packParts [] fields')[part.toNat]? with
    | none =>
      simp only [Option.map_some, Option.getD_some, found]
      refine (exec_readState ..).trans (next_send (State.readItem_refused (s := s.takenFrom sender) fun fields'' known => ?_) ..)
      obtain ⟨⟩ := known.symm.trans fields
      exact List.getElem?_eq_none_iff.1 found
    | some data =>
      simp only [Option.map_some, Option.getD_some, found]
      exact (exec_readState ..).trans (next_send (State.readItem_part (s := s.takenFrom sender) fields found) ..)

/-- An item above 10, or a selector out of the item's range, has no parts. -/
theorem State.itemParts_outside (s : State) {item selector : Nat}
    (outside : 10 < item ∨ (item ≠ 5 ∧ item ≠ 6 ∧ selector ≠ 0) ∨ (item = 5 ∧ 4 < selector) ∨ (item = 6 ∧ 1 < selector)) :
    s.itemParts item selector = [] := by
  have unknown : s.itemFields item selector = none := by
    match item with
    | 0 | 1 | 2 | 3 | 4 | 7 | 8 | 9 | 10 =>
      have selected : selector ≠ 0 := by omega
      exact if_neg selected
    | 5 =>
      obtain ⟨n, rfl⟩ := Nat.exists_eq_add_of_le' (show 5 ≤ selector by omega)
      rfl
    | 6 =>
      obtain ⟨n, rfl⟩ := Nat.exists_eq_add_of_le' (show 2 ≤ selector by omega)
      rfl
    | n + 11 => rfl
  rw [State.itemParts, unknown]
  rfl

/-! ## The parts of the items (R37, R59, R83, R101, R120, R156, R174, R181) -/

section

variable (s : State)

/-- Item 0, lean. -/
theorem State.itemParts_lean : s.itemParts 0 0 =
    [[byteOf ((s.lean.lean % 65536).toNat / 256), byteOf (s.lean.lean % 65536).toNat, byteOf (flagCode s.lean.valid)],
      presentTwo (s.lean.tPrev.map (·.toNat)) ++ [byteOf (flagCode s.lean.saturated), byteOf s.lean.decimation],
      [byteOf s.lean.reportAlive.toNat, byteOf s.lean.queue.length]] := by
  simp [State.itemParts, State.itemFields, unselected, State.leanItem, packParts, twoBytesSigned_eq]

/-- Item 1, ceiling. -/
theorem State.itemParts_ceiling : s.itemParts 1 0 =
    [[byteOf ((s.eval.slip % 65536).toNat / 256), byteOf (s.eval.slip % 65536).toNat, byteOf (flagCode s.eval.slipValid),
        byteOf s.eval.cut],
      [byteOf (s.eval.published / 256), byteOf s.eval.published, byteOf (flagCode s.eval.riseLimited),
        byteOf (flagCode s.eval.pageChanged), byteOf (flagCode s.eval.fold)]] := by
  simp [State.itemParts, State.itemFields, unselected, State.ceilingItem, packParts, twoBytes_eq, twoBytesSigned_eq]

/-- Item 2, governor. -/
theorem State.itemParts_governor : s.itemParts 2 0 =
    [byteOf s.governor.state.code :: startTimerBytes s.now s.governor.startTimer ++ [byteOf s.governor.wanted.mode],
      [byteOf s.governor.wanted.load, byteOf (flagCode s.governor.wanted.traction), byteOf s.wantedPage,
        byteOf s.governor.applied.mode, byteOf s.governor.applied.load],
      [byteOf (flagCode s.governor.applied.traction), byteOf s.governor.appliedPage] ++ decisionBytes s.governor.committing,
      [byteOf (flagCode s.governor.withdrawn)]] := by
  simp [State.itemParts, State.itemFields, unselected, State.governorItem, selectionFields, packParts]

/-- Item 3, hold. -/
theorem State.itemParts_hold : s.itemParts 3 0 =
    [byteOf (flagCode s.forwarder.slot.isSome) :: presentTwo (s.forwarder.slot.map (·.request)),
      presentByte (s.forwarder.slot.map fun h => byteOf (flagCode h.clamped)) ++
        presentByte (s.forwarder.slot.map fun h => byteOf h.route),
      presentByte (s.forwarder.slot.map fun _ => byteOf (s.forwarder.holdTimer.getD 0)) ++
        [byteOf s.forwarder.alive.toNat, byteOf (flagCode s.forwarder.monitorOn)]] := by
  simp [State.itemParts, State.itemFields, unselected, State.holdItem, packParts, twoBytes_eq]

/-- Item 4, engine. -/
theorem State.itemParts_engine : s.itemParts 4 0 =
    [byteOf (flagCode s.engine.running.isSome) :: presentByte (s.engine.running.map fun j => byteOf j.job.code) ++
        [byteOf (flagCode s.engine.ceilingPending), byteOf (flagCode s.engine.sealPending)],
      [byteOf s.lean.queue.length]] := by
  simp [State.itemParts, State.itemFields, unselected, State.engineItem, packParts]

/-- A stream's age: 0 while it is UNSEEN (R181). -/
def StreamRecord.age (now : Stamp) (r : StreamRecord) : Nat := if r.state = .unseen then 0 else ageOf now r.stamp

/-- A stream's last alive counter after its presence byte. -/
def StreamRecord.aliveBytes (r : StreamRecord) : List Byte := presentByte (r.lastAlive.map fun a => byteOf a.toNat)

/-- Item 5 of the inertial stream. -/
theorem packParts_inertial (now : Stamp) (r : StreamRecord) : packParts [] (streamItem now .inertial r) =
    [byteOf r.state.code :: presentSigned (·.1) (inertialOf r.latest), presentSigned (·.2.1) (inertialOf r.latest),
      presentSigned (·.2.2) (inertialOf r.latest) ++ [byteOf (r.age now / 256), byteOf (r.age now)],
      r.aliveBytes ++ [byteOf r.rejects, byteOf r.recovery, byteOf (r.history.count true)]] := by
  simp [streamItem, latestFields_inertial, packParts, twoBytes_eq, StreamRecord.age, StreamRecord.aliveBytes]

/-- Item 5 of a wheel stream. -/
theorem packParts_wheel (now : Stamp) {i : StreamId} (wheel : i = .wheelFront ∨ i = .wheelRear) (r : StreamRecord) :
    packParts [] (streamItem now i r) =
      [byteOf r.state.code :: presentTwo r.speed,
        [byteOf (r.age now / 256), byteOf (r.age now)] ++ r.aliveBytes ++ [byteOf r.rejects],
        [byteOf r.recovery, byteOf (r.history.count true)]] := by
  simp [streamItem, latestFields_wheel wheel, packParts, twoBytes_eq, StreamRecord.age, StreamRecord.aliveBytes]

/-- Item 5 of the torque request stream. -/
theorem packParts_torqueRequest (now : Stamp) (r : StreamRecord) : packParts [] (streamItem now .torqueRequest r) =
    [byteOf r.state.code :: presentTwo r.request,
      presentByte (clampedOf r.latest) ++ [byteOf (r.age now / 256), byteOf (r.age now)],
      r.aliveBytes ++ [byteOf r.rejects, byteOf r.recovery, byteOf (r.history.count true)]] := by
  simp [streamItem, latestFields_torqueRequest, packParts, twoBytes_eq, StreamRecord.age, StreamRecord.aliveBytes]

/-- Item 5 of the rider selection stream. -/
theorem packParts_riderSelect (now : Stamp) (r : StreamRecord) : packParts [] (streamItem now .riderSelect r) =
    [byteOf r.state.code :: presentByte ((selectionOf r.latest).map fun w => byteOf w.1) ++
        presentByte ((selectionOf r.latest).map fun w => byteOf w.2.1),
      presentByte ((selectionOf r.latest).map fun w => byteOf (flagCode w.2.2)) ++
        [byteOf (r.age now / 256), byteOf (r.age now)],
      r.aliveBytes ++ [byteOf r.rejects, byteOf r.recovery, byteOf (r.history.count true)]] := by
  simp [streamItem, latestFields_riderSelect, packParts, twoBytes_eq, StreamRecord.age, StreamRecord.aliveBytes]

/-- Item 6, port. -/
theorem packParts_port (now : Stamp) (p : Port) : packParts [] (portItem now p) =
    [[byteOf p.mode.code, byteOf p.errorCount, byteOf (p.giveUpStreak / 256), byteOf p.giveUpStreak, byteOf p.q3.length],
      [byteOf p.q2.length, byteOf p.q1.length, byteOf p.q0.length, byteOf (flagCode p.slot.isSome)],
      presentByte (p.slot.map fun x => byteOf x.origin.code) ++ presentByte (p.slot.map fun x => byteOf x.failed) ++
        [byteOf p.credit2],
      [byteOf p.credit1, byteOf p.credit0] ++ timerBytes now 50 p.recoveryTimer,
      [byteOf (flagCode p.faultPresent)]] := by
  simp [portItem, packParts, twoBytes_eq, recoverySetting]

/-- Item 7, pages. -/
theorem State.itemParts_pages : let page := fun i => byteOf (s.store.page i).state.code
    s.itemParts 7 0 =
      [[page 0, page 1, page 2, page 3, page 4], [page 5, page 6, page 7], sealBytes s.store.sealRecord] := by
  simp [State.itemParts, State.itemFields, unselected, State.pagesItem, List.range_succ, packParts]

/-- Item 8, page map. -/
theorem State.itemParts_map : let slot := fun i => byteOf (s.store.pageMap.getD i 0)
    s.itemParts 8 0 =
      [[slot 0, slot 1, slot 2, slot 3, slot 4], [slot 5, slot 6, slot 7, slot 8, slot 9], [slot 10, slot 11]] := by
  simp [State.itemParts, State.itemFields, unselected, State.mapItem, List.range_succ, packParts]

/-- Item 9, faults: the asserted marks, the causes of the conditions, and each level with its repeat timer. -/
theorem State.itemParts_faults :
    let on := fun c => byteOf (flagCode (s.faults.record c).asserted)
    let cause := fun c => byteOf (flagCode (s.faults.record c).cause)
    let phase := fun l => byteOf (s.faults.level l).phase.code
    let repeats := fun l => timerBytes s.now 200 (s.faults.level l).repeatTimer
    s.itemParts 9 0 =
      [[on .inertialLoss, on .wheelLoss, on .signalImplausible, on .streamFlood, on .sequenceError],
        [on .holdExpiry, on .inertialOverrun, on .portBFault, on .readbackMismatch, on .leanSaturation],
        [on .governDegraded, on .portAFault, cause .inertialLoss, cause .wheelLoss, cause .portBFault],
        [cause .leanSaturation, cause .governDegraded, cause .portAFault, phase 0],
        repeats 0 ++ [phase 1], repeats 1 ++ [phase 2], repeats 2 ++ [phase 3],
        repeats 3 ++ [byteOf (flagCode s.faults.summary), byteOf (flagCode s.faults.capture.isSome)]] := by
  simp [State.itemParts, State.itemFields, unselected, State.faultsItem, allClasses, allLevels, List.filter_cons,
    FaultClass.isCondition, repeatSetting, packParts]

/-- Item 10, time base. -/
theorem State.itemParts_time : s.itemParts 10 0 = [[byteOf (s.now.toNat / 256), byteOf s.now.toNat]] := by
  simp [State.itemParts, State.itemFields, unselected, State.timeItem, packParts, bytesOf_eq]

end

end Sys2Proof.Machine
end

section
/-! What READ COUNTER carries (R182, R189): the counters of a block by selector. -/

namespace Sys2Proof.Machine

/-- The counters of a block at a selector; no counters when either is out of range. -/
def State.counterValues (s : State) (block selector : Nat) : List Nat := (s.blockCounters block selector).getD []

/-- READ COUNTER answers with the counter it names, and BAD_OPERAND beyond the last. -/
theorem exec_readCounter_values (s : State) (tag : Byte) {block selector : Byte} {values : List Nat}
    (known : (s.takenFrom .service).counterValues block.toNat selector.toNat = values) (counter : Byte) :
    exec (.readCounter tag block selector counter) s = .next (match values[counter.toNat]? with
      | some n => (s.takenFrom .service).reply .service 0x14 tag .done [byteOf (n / 256), byteOf n]
      | none => (s.takenFrom .service).reply .service 0x14 tag .badOperand []) := by
  subst known
  unfold State.counterValues
  cases counts : (s.takenFrom .service).blockCounters block.toNat selector.toNat with
  | none => exact next_send (State.readCount_refused fun _ known => nomatch known.symm.trans counts) ..
  | some counts' =>
    simp only [Option.getD_some]
    cases found : counts'[counter.toNat]? with
    | none =>
      refine next_send (State.readCount_refused fun counts'' known => ?_) ..
      obtain ⟨⟩ := known.symm.trans counts
      exact List.getElem?_eq_none_iff.1 found
    | some n =>
      simp only [← twoBytes_eq]
      exact next_send (State.readCount_counter counts found) ..

section

variable (s : State)

theorem State.counterValues_route {i : Nat} (listed : i ≤ 47) : s.counterValues 0 i = (s.route i).counts.all := by
  simp [State.counterValues, State.blockCounters, listed]

theorem State.counterValues_class (c : FaultClass) : s.counterValues 9 c.number = [(s.faults.record c).occurrences] := by
  have numbered : c.number ≠ 0 := Nat.succ_ne_zero _
  have listed : c.number ≤ 12 := c.index_lt
  simp [State.counterValues, State.blockCounters, FaultUnit.counters, numbered, listed,
    classOfNumber_eq_some_iff.2 (Eq.refl c.number)]

theorem State.counterValues_level (l : Level) : s.counterValues 9 (101 + l.val) = [(s.faults.level l).frames] := by
  have beyond : ¬ 101 + l.val ≤ 12 := by omega
  simp [State.counterValues, State.blockCounters, FaultUnit.counters, beyond, levelOf]

/-- A block above 10, or a selector out of the block's range, has no counters. -/
theorem State.counterValues_outside {block selector : Nat}
    (outside : 10 < block ∨ (block = 0 ∧ 47 < selector) ∨ ((block = 1 ∨ block = 8) ∧ 1 < selector) ∨
      (block = 9 ∧ 12 < selector ∧ (selector < 101 ∨ 104 < selector)) ∨
      (block ≠ 0 ∧ block ≠ 1 ∧ block ≠ 8 ∧ block ≠ 9 ∧ selector ≠ 0)) : s.counterValues block selector = [] := by
  have unknown : s.blockCounters block selector = none := by
    match block with
    | 0 =>
      have beyond : ¬ selector ≤ 47 := by omega
      exact if_neg beyond
    | 2 | 3 | 4 | 5 | 6 | 7 | 10 =>
      have selected : selector ≠ 0 := by omega
      exact if_neg selected
    | 1 | 8 =>
      obtain ⟨n, rfl⟩ := Nat.exists_eq_add_of_le' (show 2 ≤ selector by omega)
      rfl
    | 9 =>
      have beyond : ¬ selector ≤ 12 := by omega
      have selected : selector ≠ 0 := by omega
      rcases Nat.lt_or_ge selector 101 with below | above
      · simp [State.blockCounters, FaultUnit.counters, beyond, selected, Nat.not_le.2 below]
      · have outside : ¬ selector - 101 < 4 := by omega
        simp [State.blockCounters, FaultUnit.counters, beyond, selected, levelOf, outside]
    | n + 11 => rfl
  rw [State.counterValues, unknown]
  rfl

end

end Sys2Proof.Machine

namespace Sys2Proof.Proofs
open Sys2Proof.Machine

/-- Settles O52: a read answers with a part of its item or a counter of its block, and each item and block is what its rule lists. -/
theorem itemsAndCountersRead : Obligations.ItemsAndCountersRead := by
  unfold Obligations.ItemsAndCountersRead
  intro s sender tag
  extract_lets
  have named : ∀ {x y : Byte}, x = y ↔ x.toNat = y.toNat := BitVec.toNat_inj.symm
  have reads := @exec_readState_parts s sender tag
  have counts := @exec_readCounter_values s tag
  refine ⟨reads s.itemParts_lean, reads s.itemParts_ceiling, reads s.itemParts_governor, reads s.itemParts_hold,
    reads s.itemParts_engine, reads (packParts_inertial s.now s.inertial), reads (packParts_wheel s.now (.inl rfl) s.wheelFront),
    reads (packParts_wheel s.now (.inr rfl) s.wheelRear), reads (packParts_torqueRequest s.now s.torqueRequest),
    reads (packParts_riderSelect s.now s.riderSelect), reads (packParts_port s.now s.portA), reads (packParts_port s.now s.portB),
    reads s.itemParts_pages, reads s.itemParts_map, reads s.itemParts_faults, reads s.itemParts_time, ?items, ?routes,
    counts rfl, counts rfl, counts rfl, counts rfl, counts rfl, counts rfl, counts rfl, counts rfl, counts rfl, counts rfl, counts rfl,
    ?classes, ?levels, counts rfl, ?blocks⟩
  case items =>
    intro item selector outside
    simp only [ne_eq, named] at outside
    exact reads (s.itemParts_outside outside)
  case routes => exact fun i listed => counts (State.counterValues_route _ listed)
  case classes =>
    intro c
    refine counts (Eq.trans (congrArg _ ?_) (State.counterValues_class _ c))
    cases c <;> rfl
  case levels =>
    intro l
    refine counts (Eq.trans (congrArg _ ?_) (State.counterValues_level _ l))
    exact Nat.mod_eq_of_lt (by omega)
  case blocks =>
    intro block selector outside
    simp only [ne_eq, named] at outside
    exact counts (State.counterValues_outside _ outside)

end Sys2Proof.Proofs
end

section
/-! The step (host convention): what one step does where a command waits. -/

namespace Sys2Proof.Proofs
open Sys2Proof.Machine

/-- Settles O1: the queue stands as a front command and a rest, so the step takes its second branch, whatever the rest of the state. -/
theorem stepRunsFrontCommand : Obligations.StepRunsFrontCommand := by
  unfold Obligations.StepRunsFrontCommand
  intro c s rest
  rfl

end Sys2Proof.Proofs
end

section
/-! The cause marks of the fault unit: hand-offs of present and absent causes set and clear them, and nothing else touches them (R158). -/

namespace Sys2Proof.Machine

/-! ## The marks as a list -/

/-- The cause marks, in the order of the classes. -/
def FaultUnit.causes (u : FaultUnit) : List Bool := u.classes.map (·.cause)

theorem FaultUnit.causes_length (u : FaultUnit) : u.causes.length = u.classes.length := List.length_map _

/-- A class's cause is its place in the list; a class without a record has none. -/
theorem FaultUnit.cause_eq (u : FaultUnit) (c : FaultClass) : (u.record c).cause = u.causes.getD c.index false := by
  simp only [FaultUnit.record, FaultUnit.causes, List.getD_eq_getElem?_getD, List.getElem?_map]
  cases u.classes[c.index]? <;> rfl

/-- A change of a class record that leaves its cause leaves the marks. -/
theorem FaultUnit.causes_modifyRecord (u : FaultUnit) (c : FaultClass) {f : ClassRecord → ClassRecord}
    (keeps : ∀ r, (f r).cause = r.cause) : (u.modifyRecord c f).causes = u.causes := by
  refine List.ext_getElem? fun i => ?_
  simp only [FaultUnit.causes, FaultUnit.modifyRecord, List.getElem?_map, List.getElem?_modify]
  cases u.classes[i]? with
  | none => rfl
  | some r => by_cases at_c : c.index = i <;> simp [at_c, keeps]

/-- A change of a class record that writes its cause writes the mark. -/
theorem FaultUnit.causes_modifyRecord_set (u : FaultUnit) (c : FaultClass) {f : ClassRecord → ClassRecord} {b : Bool}
    (writes : ∀ r, (f r).cause = b) : (u.modifyRecord c f).causes = u.causes.set c.index b := by
  refine List.ext_getElem? fun i => ?_
  simp only [FaultUnit.causes, FaultUnit.modifyRecord, List.getElem?_map, List.getElem?_modify, List.getElem?_set,
    List.length_map]
  by_cases at_c : c.index = i
  · subst at_c
    cases held : u.classes[c.index]? with
    | none =>
      have outside := List.getElem?_eq_none_iff.1 held
      simp [Nat.not_lt.2 outside]
    | some r =>
      obtain ⟨inside, -⟩ := List.getElem?_eq_some_iff.1 held
      simp [inside, writes]
  · cases u.classes[i]? <;> simp [at_c]

/-! ## The operations that leave the marks -/

@[simp] theorem FaultUnit.causes_setAsserted (u : FaultUnit) (c : FaultClass) (b : Bool) : (u.setAsserted c b).causes = u.causes :=
  u.causes_modifyRecord c fun _ => rfl

theorem FaultUnit.causes_releaseCarried (u : FaultUnit) (map : List AlertSetting) (carried : List FaultClass) :
    (u.releaseCarried map carried).causes = u.causes := by
  unfold FaultUnit.releaseCarried
  generalize carried.filter (isFollowEvent map) = released
  induction released generalizing u with
  | nil => rfl
  | cons c cs ih => exact (ih _).trans (u.causes_setAsserted c false)

theorem FaultUnit.causes_counted (u : FaultUnit) (env : FaultEnv) (c : FaultClass) (source : Source) (value : Half) :
    (u.counted env c source value).causes = u.causes :=
  ((u.take env c source value).causes_modifyRecord c (f := fun r => { r with occurrences := bump r.occurrences }) fun _ => rfl).trans
    (by simp [FaultUnit.causes])

section

variable (env : FaultEnv) (x : FaultSide)

theorem FaultSide.emit_causes (l : Level) : (x.emit env l).unit.causes = x.unit.causes := by
  unfold FaultSide.emit
  simp only
  split <;> exact FaultUnit.causes_releaseCarried _ _ _

theorem FaultSide.levelAdd_causes (l : Level) : (x.levelAdd env l).unit.causes = x.unit.causes :=
  (x.activated env l).emit_causes env l

theorem FaultSide.levelRemove_causes (l : Level) : (x.levelRemove env l).unit.causes = x.unit.causes := by
  rw [FaultSide.levelRemove_frame]
  rfl

theorem FaultSide.release_causes (c : FaultClass) : (x.release env c).unit.causes = x.unit.causes := by
  rw [FaultSide.release_frame]
  exact x.unit.causes_setAsserted c false

theorem FaultSide.occur_causes (c : FaultClass) (source : Source) (value : Half) :
    (x.occur env c source value).unit.causes = x.unit.causes := by
  have counted := x.unit.causes_counted env c source value
  unfold FaultSide.occur
  simp only
  split
  · exact counted
  · split
    · exact (FaultUnit.causes_setAsserted _ c _).trans counted
    · exact (FaultSide.levelAdd_causes env _ _).trans ((FaultUnit.causes_setAsserted _ c true).trans counted)

/-- An acknowledgement releases or re-asserts a class, and leaves its cause (R163). -/
theorem FaultSide.acknowledge_causes (number : Nat) : (x.acknowledge env number).1.unit.causes = x.unit.causes := by
  rcases x.acknowledge_cases env number with e | ⟨c, -, ⟨-, e⟩ | ⟨-, e⟩⟩ <;> rw [e]
  · have recounted : (x.recounted env c).unit.causes = x.unit.causes := x.unit.causes_counted env c _ _
    unfold FaultSide.reassert
    simp only
    split
    · exact recounted
    · exact (FaultSide.levelAdd_causes env _ _).trans recounted
  · exact FaultSide.release_causes env (x.acknowledged) c

/-- A write of the alert map moves classes between levels and releases them, and leaves their causes (R171). -/
theorem FaultSide.mapWritten_causes (c : FaultClass) (old : AlertSetting) : (x.mapWritten env c old).unit.causes = x.unit.causes := by
  unfold FaultSide.mapWritten
  simp only
  split
  · rfl
  split
  · split
    · rfl
    · exact (FaultSide.levelAdd_causes env _ _).trans (x.levelRemove_causes env _)
  split
  · split
    · exact (FaultUnit.causes_setAsserted _ c false).trans (x.levelRemove_causes env _)
    · exact x.levelRemove_causes env _
  split
  · exact x.levelAdd_causes env _
  split
  · split
    · split
      · rfl
      · exact x.release_causes env c
    · split
      · exact x.unit.causes_setAsserted c false
      · rfl
  · rfl

theorem FaultSide.resyncLevel_causes (l : Level) : (x.resyncLevel env l).unit.causes = x.unit.causes := by
  unfold FaultSide.resyncLevel
  split <;> exact FaultSide.emit_causes env _ l

theorem FaultSide.repeatExpiry_causes (l : Level) : (x.repeatExpiry env l).unit.causes = x.unit.causes := by
  by_cases idle : (x.unit.level l).phase = .idle
  · rw [FaultSide.repeatExpiry_idle env idle]
  · rw [FaultSide.repeatExpiry_eq env idle]
    exact x.resyncLevel_causes env l

theorem FaultSide.resync_causes : (x.resync env).unit.causes = x.unit.causes := by
  unfold FaultSide.resync
  generalize ([3, 2, 1, 0] : List Level) = levels
  induction levels generalizing x with
  | nil => rfl
  | cons l ls ih => exact (ih _).trans (x.resyncLevel_causes env l)

end

/-! ## What a hand-off tells (R158) -/

/-- The condition a hand-off speaks of, and what it says of its cause; an event speaks of none. -/
def HandOff.told : HandOff → Option (FaultClass × Bool)
  | .event _ _ _ => none
  | .present c _ _ => some (c, true)
  | .absent c => some (c, false)

/-- The cause marks after a hand-off. -/
def HandOff.mark (h : HandOff) (causes : List Bool) : List Bool :=
  match h.told with
  | some (c, b) => causes.set c.index b
  | none => causes

/-- A mark that says already what is told is no change. -/
theorem FaultUnit.causes_set_same {u : FaultUnit} {c : FaultClass} {b : Bool} (same : (u.record c).cause = b) :
    u.causes.set c.index b = u.causes := by
  rw [FaultUnit.cause_eq] at same
  refine List.ext_getElem? fun i => ?_
  rw [List.getElem?_set]
  split
  · rename_i at_c
    subst at_c
    split
    · rename_i inside
      simp [List.getD_eq_getElem?_getD, List.getElem?_eq_getElem inside] at same
      rw [List.getElem?_eq_getElem inside, same]
    · rename_i outside
      exact (List.getElem?_eq_none (Nat.le_of_not_lt outside)).symm
  · rfl

/-- A hand-off writes the mark it tells of, and no other. -/
theorem FaultSide.takeHandOff_causes (env : FaultEnv) (x : FaultSide) (h : HandOff) :
    (x.takeHandOff env h).unit.causes = h.mark x.unit.causes := by
  cases h with
  | event c source value => exact x.occur_causes env c source value
  | present c source value =>
    cases before : (x.unit.record c).cause with
    | true =>
      rw [FaultSide.takeHandOff_idle env x _ (by simp [HandOff.matters, before])]
      exact (FaultUnit.causes_set_same before).symm
    | false =>
      rw [FaultSide.takeHandOff_present source value env before]
      exact ((x.marked c source value).occur_causes env c source value).trans (x.unit.causes_modifyRecord_set c fun _ => rfl)
  | absent c =>
    cases before : (x.unit.record c).cause with
    | false =>
      rw [FaultSide.takeHandOff_idle env x _ (by simp [HandOff.matters, before])]
      exact (FaultUnit.causes_set_same before).symm
    | true =>
      have cleared : (x.cleared c).unit.causes = x.unit.causes.set c.index false :=
        x.unit.causes_modifyRecord_set c fun _ => rfl
      simp only [FaultSide.takeHandOff, before, if_true]
      split
      · exact (FaultSide.release_causes env (x.cleared c) c).trans cleared
      · exact cleared

theorem FaultSide.takeAll_causes (env : FaultEnv) (x : FaultSide) (hs : List HandOff) :
    (x.takeAll env hs).unit.causes = hs.foldl (fun causes h => h.mark causes) x.unit.causes := by
  unfold FaultSide.takeAll
  induction hs generalizing x with
  | nil => rfl
  | cons h hs ih => exact (ih _).trans (by rw [x.takeHandOff_causes env h]; rfl)

theorem HandOff.mark_length (h : HandOff) (causes : List Bool) : (h.mark causes).length = causes.length := by
  unfold HandOff.mark
  split
  · exact List.length_set
  · rfl

theorem marks_length (hs : List HandOff) (causes : List Bool) :
    (hs.foldl (fun causes h => h.mark causes) causes).length = causes.length := by
  induction hs generalizing causes with
  | nil => rfl
  | cons h hs ih => exact (ih _).trans (h.mark_length causes)

/-- A mark is what its hand-off tells. -/
theorem HandOff.mark_told {h : HandOff} {c : FaultClass} {b : Bool} (told : h.told = some (c, b)) {causes : List Bool}
    (held : c.index < causes.length) : (h.mark causes).getD c.index false = b := by
  simp [HandOff.mark, told, List.getD_eq_getElem?_getD, held]

/-- A mark of which a hand-off does not speak stands. -/
theorem HandOff.mark_silent {h : HandOff} {c : FaultClass} (silent : ∀ b, h.told ≠ some (c, b)) (causes : List Bool) :
    (h.mark causes).getD c.index false = causes.getD c.index false := by
  unfold HandOff.mark
  split
  · rename_i d b told
    have apart : d.index ≠ c.index := fun e => silent b (FaultClass.index_injective e ▸ told)
    simp [List.getD_eq_getElem?_getD, apart]
  · rfl

/-- A mark after hand-offs that agree on it and settle it. -/
theorem marks_getD {c : FaultClass} {b : Bool} {hs : List HandOff} (agree : ∀ h ∈ hs, ∀ b', h.told = some (c, b') → b' = b)
    {causes : List Bool} (held : c.index < causes.length)
    (settled : causes.getD c.index false = b ∨ ∃ h ∈ hs, h.told = some (c, b)) :
    (hs.foldl (fun causes h => h.mark causes) causes).getD c.index false = b := by
  induction hs generalizing causes with
  | nil => exact settled.resolve_right nofun
  | cons h hs ih =>
    refine ih (fun g m => agree g (List.mem_cons_of_mem _ m)) (by rwa [h.mark_length]) ?_
    by_cases speaks : ∃ b', h.told = some (c, b')
    · obtain ⟨b', told⟩ := speaks
      exact .inl ((HandOff.mark_told told held).trans (agree h List.mem_cons_self b' told))
    · have silent : ∀ b', h.told ≠ some (c, b') := not_exists.1 speaks
      rcases settled with before | ⟨g, m, told⟩
      · exact .inl ((HandOff.mark_silent silent causes).trans before)
      · rcases List.mem_cons.1 m with rfl | m
        · exact absurd told (silent b)
        · exact .inr ⟨g, m, told⟩

/-- A mark after hand-offs none of which speaks of it. -/
theorem marks_silent {c : FaultClass} {hs : List HandOff} (silent : ∀ h ∈ hs, ∀ b, h.told ≠ some (c, b)) (causes : List Bool) :
    (hs.foldl (fun causes h => h.mark causes) causes).getD c.index false = causes.getD c.index false := by
  induction hs generalizing causes with
  | nil => rfl
  | cons h hs ih =>
    exact (ih (fun g m => silent g (List.mem_cons_of_mem _ m)) _).trans
      (HandOff.mark_silent (silent h List.mem_cons_self) causes)

/-! ## The hand-offs of one event -/

/-- A hand-off that does not matter tells what its mark says already. -/
theorem HandOff.cause_of_idle {u : FaultUnit} {h : HandOff} {c : FaultClass} {b : Bool} (idle : h.matters u = false)
    (told : h.told = some (c, b)) : (u.record c).cause = b := by
  cases h with
  | event _ _ _ => exact nomatch told
  | present d _ _ =>
    obtain ⟨rfl, rfl⟩ := Prod.mk.inj (Option.some.inj told)
    simpa [HandOff.matters] using idle
  | absent d =>
    obtain ⟨rfl, rfl⟩ := Prod.mk.inj (Option.some.inj told)
    simpa [HandOff.matters] using idle

/-- The hand-offs of one event that matter, in the order they are taken: each of them once (R159). -/
theorem State.handOffs_taken (s : State) (hs : List HandOff) :
    ∃ taken : List HandOff, (s.handOffs hs).faultSide = s.faultSide.takeAll s.faultEnv taken ∧
      taken.Perm (hs.filter (HandOff.matters s.faults)) := ⟨_, rfl, freeOrder_perm _ _ _⟩

/-- The cause marks after the hand-offs of one event are those of the hand-offs that matter. -/
theorem State.handOffs_causes (s : State) (hs : List HandOff) :
    ∃ taken : List HandOff, (s.handOffs hs).faults.causes = taken.foldl (fun causes h => h.mark causes) s.faults.causes ∧
      ∀ h, h ∈ taken ↔ h ∈ hs ∧ h.matters s.faults := by
  obtain ⟨taken, side, once⟩ := s.handOffs_taken hs
  exact ⟨taken, (congrArg (·.unit.causes) side).trans (s.faultSide.takeAll_causes s.faultEnv taken),
    fun h => once.mem_iff.trans List.mem_filter⟩

theorem State.handOffs_length (s : State) (hs : List HandOff) : (s.handOffs hs).faults.causes.length = s.faults.causes.length := by
  obtain ⟨taken, causes, -⟩ := s.handOffs_causes hs
  exact (congrArg List.length causes).trans (marks_length taken _)

/-- A cause after the hand-offs of one event that agree on it: what they tell, or as before, in whatever order they are taken. -/
theorem State.handOffs_cause {s : State} {c : FaultClass} {b : Bool} {hs : List HandOff} (classes : s.faults.causes.length = 12)
    (agree : ∀ h ∈ hs, ∀ b', h.told = some (c, b') → b' = b)
    (settled : (s.faults.record c).cause = b ∨ ∃ h ∈ hs, h.told = some (c, b)) :
    ((s.handOffs hs).faults.record c).cause = b := by
  obtain ⟨taken, causes, picked⟩ := s.handOffs_causes hs
  rw [FaultUnit.cause_eq, causes]
  refine marks_getD (fun h m => agree h ((picked h).1 m).1) (by rw [classes]; exact c.index_lt) ?_
  rw [← FaultUnit.cause_eq]
  rcases settled with before | ⟨h, m, told⟩
  · exact .inl before
  · cases matters : h.matters s.faults with
    | true => exact .inr ⟨h, (picked h).2 ⟨m, matters⟩, told⟩
    | false => exact .inl (HandOff.cause_of_idle matters told)

/-- A cause of which no hand-off of the event speaks stands, whatever records there are. -/
theorem State.handOffs_cause_silent {s : State} {c : FaultClass} {hs : List HandOff} (silent : ∀ h ∈ hs, ∀ b, h.told ≠ some (c, b)) :
    ((s.handOffs hs).faults.record c).cause = (s.faults.record c).cause := by
  obtain ⟨taken, causes, picked⟩ := s.handOffs_causes hs
  rw [FaultUnit.cause_eq, FaultUnit.cause_eq, causes]
  exact marks_silent (fun h m => silent h ((picked h).1 m).1) _

/-- One hand-off alone is the event of that one. -/
theorem State.handOffs_one (s : State) (h : HandOff) : s.handOffs [h] = s.handOff h := by
  cases matters : h.matters s.faults with
  | true =>
    simp [State.handOffs, State.handOff, matters, FaultSide.takeAll]
    rfl
  | false =>
    rw [s.handOffs_idle [h] (by simpa using matters), State.handOff, FaultSide.takeHandOff_idle _ _ _ matters]
    rfl

end Sys2Proof.Machine
end

section
/-! What the route table, the stream records and the cause marks turn on: the record core, and the operations of the part that leave it
as it is. -/

namespace Sys2Proof.Machine

/-! ## Ports under offers and the arbiter -/

/-- What a port's condition reads: its state and its give-up streak (R155). -/
def Port.standing (p : Port) : PortMode × Nat := (p.mode, p.giveUpStreak)

theorem Port.faultPresent_of_standing {p q : Port} (e : q.standing = p.standing) : q.faultPresent = p.faultPresent := by
  obtain ⟨mode, streak⟩ := Prod.mk.inj e
  simp only [Port.faultPresent, mode, streak]

/-- The condition of a port that is not OFF is that of its streak. -/
theorem Port.faultPresent_on {p : Port} (on : p.mode ≠ .off) : p.faultPresent = decide (3 ≤ p.giveUpStreak) := by
  simp [Port.faultPresent, on]

/-- The arbiter's choice moves a frame and spends credits; the port's state and streak stand. -/
@[simp] theorem Port.standing_arbitrate (p : Port) : p.arbitrate.standing = p.standing := by
  have chosen : ∀ q : Port, q.takeByCredit.standing = q.standing := by
    intro q
    rcases q.takeByCredit_cases with ⟨_, _, _, _, e⟩ | ⟨_, _, _, _, e⟩ | ⟨_, _, _, _, e⟩ | ⟨-, e⟩ <;> rw [e] <;> rfl
  rcases p.arbitrate_cases with ⟨e, -⟩ | ⟨-, -, ⟨_, _, -, e⟩ | ⟨-, e⟩⟩ <;> rw [e]
  · rfl
  · rw [chosen]
    rcases p.roundForChoice_cases with e | e
    · rw [e]
    · rw [e]
      rfl

@[simp] theorem Port.standing_offer (p : Port) (q : PlainQueue) (f : Frame) : (p.offer q f).standing = p.standing := by
  unfold Port.offer
  split
  · rfl
  · cases q with
    | q3 | q2 => exact Port.standing_arbitrate _
    | q0 =>
      refine (Port.standing_arbitrate _).trans ?_
      unfold Port.join0
      split <;> rfl

@[simp] theorem Port.standing_offerAlert (p : Port) (l : Level) (f : Frame) : (p.offerAlert l f).standing = p.standing := by
  unfold Port.offerAlert
  split
  · rfl
  · exact Port.standing_arbitrate _

theorem Port.AlertedTo.standing {p q : Port} (alerts : p.AlertedTo q) : q.standing = p.standing :=
  alerts.keeps (P := fun r => r.standing = p.standing) (fun h l f => (Port.standing_offerAlert _ l f).trans h) rfl

/-! ## The record core -/

/-- The parts of a route entry that commands alone move: its state and its fields. -/
def RouteEntry.shape (e : RouteEntry) : RouteState × RouteFields := (e.state, e.fields)

/-- The shapes of the route table, the stream records, and the other conditions and marks of the fault unit. -/
structure RecordCore where
  shapes : List (RouteState × RouteFields)
  stream : StreamId → StreamRecord
  saturated : Bool
  degraded : Bool
  portFault : PortId → Bool
  marks : List Bool

/-- The record core of a state. -/
def State.recordCore (s : State) : RecordCore where
  shapes := s.routes.map RouteEntry.shape
  stream := s.stream
  saturated := s.lean.saturated
  degraded := s.governor.degraded
  portFault p := (s.port p).faultPresent
  marks := s.faults.causes

/-! ## What leaves the core as it is -/

/-- Two states share the core when they share its parts. -/
theorem State.recordCore_congr {s t : State} (shapes : t.routes.map RouteEntry.shape = s.routes.map RouteEntry.shape)
    (streams : ∀ i, t.stream i = s.stream i) (saturated : t.lean.saturated = s.lean.saturated)
    (degraded : t.governor.degraded = s.governor.degraded) (ports : ∀ p, (t.port p).standing = (s.port p).standing)
    (marks : t.faults.causes = s.faults.causes) : t.recordCore = s.recordCore :=
  RecordCore.mk.injEq .. |>.mpr
    ⟨shapes, funext streams, saturated, degraded, funext fun p => Port.faultPresent_of_standing (ports p), marks⟩

/-- A port replaced by one that stands the same leaves the core. -/
theorem State.recordCore_setPort {s : State} {p : PortId} {x : Port} (e : x.standing = (s.port p).standing) :
    (s.setPort p x).recordCore = s.recordCore := by
  refine State.recordCore_congr (by simp) (by simp) (by simp) (by simp) (fun q => ?_) (by simp)
  cases p <;> cases q
  · exact e
  · rfl
  · rfl
  · exact e

@[simp] theorem State.recordCore_offer (s : State) (p : PortId) (q : PlainQueue) (f : Frame) :
    (s.offer p q f).recordCore = s.recordCore := State.recordCore_setPort (Port.standing_offer _ q f)
@[simp] theorem State.recordCore_arbitrate (s : State) (p : PortId) : (s.arbitrate p).recordCore = s.recordCore :=
  State.recordCore_setPort (Port.standing_arbitrate _)
@[simp] theorem State.recordCore_reply (s : State) (x : Sender) (code tag : Byte) (r : Result) (data : List Byte) :
    (s.reply x code tag r data).recordCore = s.recordCore := (State.recordCore_offer _ _ _ _).trans rfl
@[simp] theorem Answer.recordCore_send (a : Answer) (x : Sender) (code tag : Byte) :
    (a.send x code tag).recordCore = a.state.recordCore := State.recordCore_reply _ _ _ _ _ _
@[simp] theorem State.recordCore_refuseMoving (s : State) (code tag : Byte) :
    (s.refuseMoving code tag).recordCore = s.recordCore := (State.recordCore_reply _ _ _ _ _ _).trans rfl
@[simp] theorem State.recordCore_setWanted (s : State) (x : Selection) : (s.setWanted x).recordCore = s.recordCore := rfl
@[simp] theorem State.recordCore_countUnknown (s : State) (p : PortId) (f : UnknownCounts → UnknownCounts) :
    (s.countUnknown p f).recordCore = s.recordCore := by cases p <;> rfl

/-- A route entry changed in its counters and policing state alone leaves the core. -/
theorem State.recordCore_modifyRoute (s : State) (i : Nat) (f : RouteEntry → RouteEntry) (keeps : ∀ e, (f e).shape = e.shape) :
    (s.modifyRoute i f).recordCore = s.recordCore := by
  refine State.recordCore_congr (List.ext_getElem? fun j => ?_) (fun k => by cases k <;> rfl) rfl rfl
    (fun p => by cases p <;> rfl) rfl
  simp only [State.modifyRoute, List.getElem?_map, List.getElem?_modify]
  cases s.routes[j]? with
  | none => rfl
  | some e => by_cases here : i = j <;> simp [here, keeps]

@[simp] theorem State.recordCore_countRoute (s : State) (i : Nat) (f : RouteCounts → RouteCounts) :
    (s.countRoute i f).recordCore = s.recordCore := s.recordCore_modifyRoute i _ fun _ => rfl

/-- An operation of the fault unit that leaves the marks leaves the core: Port A gets alert frames alone. -/
theorem State.recordCore_withFaultSide {s : State} {x : FaultSide} (alerts : s.portA.AlertedTo x.port)
    (marks : x.unit.causes = s.faults.causes) : (s.withFaultSide x).recordCore = s.recordCore := by
  refine State.recordCore_congr rfl (fun i => by cases i <;> rfl) rfl rfl (fun p => ?_) marks
  cases p with
  | a => exact alerts.standing
  | b => rfl

/-- The hand-offs of one event write marks and nothing else of the core. -/
@[simp] theorem State.recordCore_handOffs (s : State) (hs : List HandOff) :
    (s.handOffs hs).recordCore = { s.recordCore with marks := (s.handOffs hs).faults.causes } := by
  refine RecordCore.mk.injEq .. |>.mpr ⟨rfl, funext fun i => by cases i <;> rfl, rfl, rfl, funext fun p => ?_, rfl⟩
  cases p with
  | a => exact Port.faultPresent_of_standing (s.handOffs_alerted hs).standing
  | b => rfl

@[simp] theorem State.recordCore_choose (s : State) : s.choose.recordCore = s.recordCore :=
  State.recordCore_congr (by simp) (fun i => by cases i <;> simp [State.stream]) (by simp) (by simp [Governor.degraded])
    (fun p => by cases p <;> simp [State.port]) (by simp)
@[simp] theorem State.recordCore_finishJob (s : State) : s.finishJob.recordCore = s.recordCore :=
  (State.recordCore_choose _).trans rfl
@[simp] theorem State.recordCore_finishVoid (s : State) (ceiling : Bool) : (s.finishVoid ceiling).recordCore = s.recordCore :=
  (State.recordCore_finishJob _).trans rfl

@[simp] theorem State.recordCore_askCeiling (s : State) : s.askCeiling.recordCore = s.recordCore := by
  rcases s.askCeiling_cases with ⟨e, -⟩ | ⟨-, -, e⟩ <;> rw [e]
  exact (State.recordCore_choose _).trans rfl

@[simp] theorem State.recordCore_answer (s : State) (h : HeldRequest) (late : Bool) : (s.answer h late).recordCore = s.recordCore := by
  unfold State.answer
  simp only
  split <;> simp only [State.recordCore_offer] <;> rfl

@[simp] theorem State.recordCore_sendReport (s : State) : s.sendReport.recordCore = s.recordCore := by
  unfold State.sendReport
  simp only
  split <;> simp only [State.recordCore_offer] <;> rfl

@[simp] theorem State.recordCore_decimate (s : State) : s.decimate.recordCore = s.recordCore := by
  unfold State.decimate
  split
  · rw [State.recordCore_sendReport]
    rfl
  · rfl

@[simp] theorem State.recordCore_forwardFrame (s : State) (i : Nat) (p : PortId) (e : RouteFields) (f : Frame) :
    (s.forwardFrame i p e f).recordCore = s.recordCore := by
  unfold State.forwardFrame
  split <;> simp

@[simp] theorem State.recordCore_forwardConsumed (s : State) (k : StreamId) (i : Nat) (p : PortId) (e : RouteFields) (f : Frame) :
    (s.forwardConsumed k i p e f).recordCore = s.recordCore := by
  unfold State.forwardConsumed
  split <;> simp

@[simp] theorem State.recordCore_unknownFrame (s : State) (p : PortId) (f : Frame) : (s.unknownFrame p f).recordCore = s.recordCore := by
  unfold State.unknownFrame
  split <;> simp

/-- A recorded seal step reaches pages, seal record, engine and replies (R127). -/
theorem State.recordCore_recordStep (s : State) (r : SealRecord) (n : SealSnapshot) :
    (s.recordStep r n).recordCore = s.recordCore := by
  unfold State.recordStep
  split
  · exact (State.recordCore_reply _ _ _ _ _ _).trans rfl
  · split
    · exact (State.recordCore_choose _).trans rfl
    · exact (State.recordCore_reply _ _ _ _ _ _).trans rfl

/-! ## The owners' answers that leave the core as it is -/

theorem State.recordCore_writePage (s : State) (page table index v : Nat) :
    (s.writePage page table index v).state.recordCore = s.recordCore := by
  unfold State.writePage
  repeat' split
  all_goals rfl

theorem State.recordCore_unsealPageAt (s : State) (page : Nat) : (s.unsealPageAt page).state.recordCore = s.recordCore := by
  unfold State.unsealPageAt
  repeat' split
  all_goals rfl

theorem State.recordCore_mapPageAt (s : State) (slot expected new : Nat) :
    (s.mapPageAt slot expected new).state.recordCore = s.recordCore := by
  unfold State.mapPageAt
  simp only
  repeat' split
  all_goals rfl

theorem State.recordCore_setMonitor (s : State) (value : Nat) : (s.setMonitor value).state.recordCore = s.recordCore := by
  unfold State.setMonitor
  split <;> rfl

theorem State.recordCore_sealPageAt (s : State) (tag page : Byte) : (s.sealPageAt tag page).recordCore = s.recordCore := by
  unfold State.sealPageAt
  split
  · exact (State.recordCore_choose _).trans rfl
  · exact State.recordCore_reply _ _ _ _ _ _

theorem State.recordCore_alertMapWritten (s : State) (item : ChassisItem) (before : Chassis) :
    (s.alertMapWritten item before).recordCore = s.recordCore := by
  unfold State.alertMapWritten
  split
  · exact State.recordCore_withFaultSide (FaultSide.mapWritten_alerted _ _ _ _) (FaultSide.mapWritten_causes _ _ _ _)
  · rfl

theorem State.recordCore_writeChassis (s : State) (n : Nat) (v : Half) : (s.writeChassis n v).state.recordCore = s.recordCore := by
  unfold State.writeChassis
  split
  · rfl
  · split
    · rfl
    · exact (State.recordCore_alertMapWritten _ _ _).trans rfl

theorem State.recordCore_acknowledgeAt (s : State) (number : Nat) : (s.acknowledgeAt number).state.recordCore = s.recordCore :=
  State.recordCore_withFaultSide (FaultSide.acknowledge_alerted _ _ _) (FaultSide.acknowledge_causes _ _ _)

end Sys2Proof.Machine
end

section
/-! The soundness of stream records (R16 to R22) and of the route table (R2, R5) under the writes their owners make. -/

namespace Sys2Proof.Machine

/-! ## What each state makes of a frame or a flood -/

section
variable {r : StreamRecord}

/-- A stream is UNSEEN, trusted or out. -/
theorem StreamState.cases_trust (x : StreamState) : x = .unseen ∨ x.trusted ∨ x.out := by
  cases x <;> decide

/-- A trusted state is no loss. -/
theorem StreamState.not_out {x : StreamState} (trusted : x.trusted) : x.out = false := by
  cases x <;> first | rfl | exact nomatch trusted

/-- A loss is no trusted state. -/
theorem StreamState.not_trusted {x : StreamState} (out : x.out) : x.trusted = false := by
  cases x <;> first | rfl | exact nomatch out

theorem StreamRecord.reject_unseen (h : r.state = .unseen) : r.reject = { r with rejects := min (r.rejects + 1) 4 } := by
  simp [StreamRecord.reject, h]
theorem StreamRecord.reject_trusted (h : r.state.trusted) :
    r.reject = if 4 ≤ r.rejects + 1 then r.leave .faulty else { r with rejects := r.rejects + 1 } := by
  unfold StreamRecord.reject
  split <;> simp_all [StreamState.trusted]
theorem StreamRecord.reject_out (h : r.state.out) : r.reject = { r with recovery := 0 } := by
  unfold StreamRecord.reject
  split <;> simp_all [StreamState.out]

theorem StreamRecord.flood_unseen (h : r.state = .unseen) : r.flood = r := by simp [StreamRecord.flood, h]
theorem StreamRecord.flood_trusted (h : r.state.trusted) : r.flood = r.leave .faulty := by
  unfold StreamRecord.flood
  split <;> simp_all [StreamState.trusted]
theorem StreamRecord.flood_out (h : r.state.out) : r.flood = { r with recovery := 0 } := by
  unfold StreamRecord.flood
  split <;> simp_all [StreamState.out]

variable (e : RouteFields) (v : Values) (alive : Alive) (stamp : Stamp) (sequenceError : Bool)

theorem StreamRecord.accept_unseen (h : r.state = .unseen) :
    r.accept e v alive stamp sequenceError = (r.store e v alive stamp).becomeFresh e stamp := by simp [StreamRecord.accept, h]
theorem StreamRecord.accept_trusted (h : r.state.trusted) :
    r.accept e v alive stamp sequenceError = (r.store e v alive stamp).acceptTrusted e stamp sequenceError := by
  unfold StreamRecord.accept
  split <;> simp_all [StreamState.trusted]
theorem StreamRecord.accept_out (h : r.state.out) :
    r.accept e v alive stamp sequenceError = (r.store e v alive stamp).acceptRecovering e stamp sequenceError := by
  unfold StreamRecord.accept
  split <;> simp_all [StreamState.out]

end

/-! ## Stream records -/

theorem unseenRecord_sound : unseenRecord.Sound where
  held := nofun
  stale := by decide
  untrusted := fun _ => ⟨rfl, rfl⟩
  out := nofun
  unseen := fun _ => ⟨rfl, rfl, rfl, rfl, by decide, rfl⟩
  marks := by decide

/-- A record that has left its stream LOST or FAULTY holds nothing that those states do not (R19, R20). -/
theorem StreamRecord.leave_sound (r : StreamRecord) {state : StreamState} (out : state.out) : (r.leave state).Sound := by
  cases state with
  | unseen | fresh | stale => exact nomatch out
  | lost | faulty =>
    exact ⟨nofun, ⟨fun timed => absurd rfl timed, nofun⟩, fun _ => ⟨rfl, rfl⟩, fun _ => ⟨rfl, Nat.zero_le _⟩, nofun,
      ⟨Nat.zero_le _, Nat.zero_le _⟩⟩

/-- A record that becomes FRESH with values, at most 3 rejects and a sound history is sound. -/
theorem StreamRecord.fresh_sound {r : StreamRecord} (state : r.state = .fresh) (latest : r.latest ≠ none) (rejects : r.rejects ≤ 3)
    (recovery : r.recovery = 0) (history : r.history.length ≤ 16 ∧ r.history.count true ≤ 2) (e : RouteFields) (stamp : Stamp) :
    (r.startTimers e stamp).Sound where
  held := fun _ => ⟨latest, nofun, rejects, recovery⟩
  stale := ⟨fun _ => state, fun _ => nofun⟩
  untrusted := fun trusted => absurd trusted (by simp [StreamRecord.startTimers, state, StreamState.trusted])
  out := fun out => absurd out (by simp [StreamRecord.startTimers, state, StreamState.out])
  unseen := fun unseen => absurd (state.symm.trans unseen) nofun
  marks := history

/-- One more reject of a record below its fourth (R16). -/
theorem StreamRecord.Sound.withReject {r : StreamRecord} (h : r.Sound) (trusted : r.state.trusted) (few : ¬4 ≤ r.rejects + 1) :
    ({ r with rejects := r.rejects + 1 } : StreamRecord).Sound where
  held := fun _ => have ⟨latest, timed, _, recovery⟩ := h.held trusted; ⟨latest, timed, by simp only; omega, recovery⟩
  stale := h.stale
  untrusted := h.untrusted
  out := fun out => absurd out (by simp [StreamState.not_out trusted])
  unseen := fun unseen => absurd trusted (by rw [unseen]; decide)
  marks := h.marks

/-- Another recovery count within its range (R20, R21). -/
theorem StreamRecord.Sound.withRecovery {r : StreamRecord} (h : r.Sound) (isOut : r.state.out) {n : Nat} (few : n ≤ 7) :
    ({ r with recovery := n } : StreamRecord).Sound where
  held := fun trusted => absurd trusted (by simp [StreamState.not_trusted isOut])
  stale := h.stale
  untrusted := h.untrusted
  out := fun _ => ⟨(h.out isOut).1, few⟩
  unseen := fun unseen => absurd isOut (by rw [unseen]; decide)
  marks := h.marks

theorem StreamRecord.Sound.reject {r : StreamRecord} (h : r.Sound) : r.reject.Sound := by
  rcases r.state.cases_trust with unseen | trusted | out
  · rw [StreamRecord.reject_unseen unseen]
    obtain ⟨latest, alive, reference, stamp, -, recovery⟩ := h.unseen unseen
    exact ⟨fun t => absurd t (by rw [unseen]; decide), h.stale, h.untrusted, fun out => absurd out (by rw [unseen]; decide),
      fun _ => ⟨latest, alive, reference, stamp, Nat.min_le_right _ _, recovery⟩, h.marks⟩
  · rw [StreamRecord.reject_trusted trusted]
    split
    · exact r.leave_sound rfl
    · exact h.withReject trusted ‹_›
  · rw [StreamRecord.reject_out out]
    exact h.withRecovery out (Nat.zero_le _)

theorem StreamRecord.Sound.flood {r : StreamRecord} (h : r.Sound) : r.flood.Sound := by
  rcases r.state.cases_trust with unseen | trusted | out
  · rwa [StreamRecord.flood_unseen unseen]
  · rw [StreamRecord.flood_trusted trusted]
    exact r.leave_sound rfl
  · rw [StreamRecord.flood_out out]
    exact h.withRecovery out (Nat.zero_le _)

/-- A history with a mark added holds at most 16 (01, section 1.7). -/
theorem addMark_length (history : List Bool) (mark : Bool) : (addMark history mark).length ≤ 16 := by
  simp only [addMark, List.length_drop]
  omega

/-- The values of an accepted frame keep a record that stands out sound (R17). -/
theorem StreamRecord.Sound.store {r : StreamRecord} (h : r.Sound) (isOut : r.state.out) (e : RouteFields) (v : Values)
    (alive : Alive) (stamp : Stamp) : (r.store e v alive stamp).Sound where
  held := fun trusted => absurd trusted (by simp [StreamRecord.store, StreamState.not_trusted isOut])
  stale := h.stale
  untrusted := h.untrusted
  out := fun _ => ⟨rfl, (h.out isOut).2⟩
  unseen := fun unseen => absurd isOut (by rw [show r.state = .unseen from unseen]; decide)
  marks := h.marks

theorem StreamRecord.Sound.accept {r : StreamRecord} (h : r.Sound) (e : RouteFields) (v : Values) (alive : Alive) (stamp : Stamp)
    (sequenceError : Bool) : (r.accept e v alive stamp sequenceError).Sound := by
  rcases r.state.cases_trust with unseen | trusted | out
  · rw [StreamRecord.accept_unseen _ _ _ _ _ unseen]
    exact StreamRecord.fresh_sound rfl (Option.some_ne_none v) (Nat.zero_le _) rfl ⟨Nat.zero_le _, Nat.zero_le _⟩ e stamp
  · rw [StreamRecord.accept_trusted _ _ _ _ _ trusted]
    unfold StreamRecord.acceptTrusted
    simp only
    split
    · exact StreamRecord.leave_sound _ rfl
    · rename_i few
      obtain ⟨-, -, -, recovery⟩ := h.held trusted
      refine StreamRecord.fresh_sound ?_ ?_ ?_ ?_ ?_ e stamp
      · rfl
      · exact Option.some_ne_none v
      · exact Nat.zero_le 3
      · exact recovery
      · exact ⟨addMark_length _ _, Nat.le_of_lt_succ (Nat.not_le.1 few)⟩
  · rw [StreamRecord.accept_out _ _ _ _ _ out]
    have stored := h.store out e v alive stamp
    unfold StreamRecord.acceptRecovering
    split
    · exact stored.withRecovery out (Nat.zero_le _)
    split
    · exact StreamRecord.fresh_sound rfl (Option.some_ne_none v) (Nat.zero_le _) rfl ⟨Nat.zero_le _, Nat.zero_le _⟩ e stamp
    · exact stored.withRecovery out (by omega)

/-- A FRESH record that becomes STALE keeps its values, its lost timer and its history (R18). -/
theorem StreamRecord.Sound.becomeStale {r : StreamRecord} (h : r.Sound) (fresh : r.state = .fresh) :
    ({ r with state := .stale, staleTimer := none } : StreamRecord).Sound where
  held := fun _ => h.held (by rw [fresh]; rfl)
  stale := ⟨fun timed => absurd rfl timed, nofun⟩
  untrusted := nofun
  out := nofun
  unseen := nofun
  marks := h.marks

/-- A sound record in place of one of five sound ones. -/
theorem State.StreamsSound.of_one {s t : State} (h : s.StreamsSound) {i : StreamId} (others : ∀ j, j ≠ i → t.stream j = s.stream j)
    (one : (s.stream i).Sound → (t.stream i).Sound) : t.StreamsSound := by
  intro j
  by_cases here : j = i
  · subst here
    exact one (h j)
  · rw [others j here]
    exact h j

/-! ## The route table -/

/-- An entry's shape, by index, is read off the table's shapes. -/
theorem State.shape_route (s : State) (i : Nat) : (s.route i).shape = (s.routes.map RouteEntry.shape).getD i freeEntry.shape := by
  simp only [State.route, List.getD_eq_getElem?_getD, List.getElem?_map]
  cases s.routes[i]? <;> rfl

/-- The soundness of the route table reads entries by their shapes alone. -/
theorem State.RoutesSound.of_shapes {s t : State} (h : s.RoutesSound)
    (e : t.routes.map RouteEntry.shape = s.routes.map RouteEntry.shape) : t.RoutesSound := by
  have entry : ∀ i, (t.route i).state = (s.route i).state ∧ (t.route i).fields = (s.route i).fields := fun i =>
    Prod.mk.inj ((t.shape_route i).trans ((congrArg (·.getD i freeEntry.shape) e).trans (s.shape_route i).symm))
  refine ⟨by simpa using (congrArg List.length e).trans (by simpa using h.length), ?_, ?_, ?_⟩
  · intro i j
    simpa only [(entry _).1, (entry _).2] using h.apart i j
  · intro i j
    simpa only [(entry _).1, (entry _).2] using h.classes i j
  · intro i
    simpa only [(entry _).1, (entry _).2] using h.relations i

/-- An entry that is not ENABLED after its write takes part in no relation (R4, R6). -/
theorem State.RoutesSound.modify_idle {s : State} (h : s.RoutesSound) {i : Nat} {f : RouteEntry → RouteEntry} (inside : i < s.routes.length)
    (idle : (f (s.route i)).state ≠ .enabled) : (s.modifyRoute i f).RoutesSound := by
  have kept : ∀ j, ((s.modifyRoute i f).route j).state = .enabled → (s.modifyRoute i f).route j = s.route j := by
    intro j enabled
    by_cases here : j = i
    · subst here
      rw [State.route_modifyRoute_same _ _ inside] at enabled
      exact absurd enabled idle
    · exact State.route_modifyRoute_ne _ _ here
  refine ⟨by simpa [State.modifyRoute] using h.length, ?_, ?_, ?_⟩
  · intro j k apart enabledJ enabledK
    have keptJ := kept j enabledJ
    have keptK := kept k enabledK
    rw [keptJ] at enabledJ ⊢
    rw [keptK] at enabledK ⊢
    exact h.apart j k apart enabledJ enabledK
  · intro j k apart enabledJ enabledK
    have keptJ := kept j enabledJ
    have keptK := kept k enabledK
    rw [keptJ] at enabledJ ⊢
    rw [keptK] at enabledK ⊢
    exact h.classes j k apart enabledJ enabledK
  · intro j enabled
    have keptJ := kept j enabled
    rw [keptJ] at enabled ⊢
    exact h.relations j enabled

/-- Another ENABLED entry passes a test exactly when some other index reads one that does. -/
theorem State.otherEnabled_iff (s : State) (entry : Nat) (test : RouteFields → Bool) :
    s.otherEnabled entry test ↔ ∃ j, j ≠ entry ∧ (s.route j).state = .enabled ∧ test (s.route j).fields := by
  simp only [State.otherEnabled, List.any_eq_true, Prod.exists, List.mem_zipIdx_iff_getElem?, Bool.and_eq_true, decide_eq_true_eq]
  constructor
  · rintro ⟨e, j, held, ⟨other, enabled⟩, passes⟩
    have read : s.route j = e := by simp [State.route, List.getD_eq_getElem?_getD, held]
    exact ⟨j, other, read ▸ enabled, read ▸ passes⟩
  · rintro ⟨j, other, enabled, passes⟩
    have inside := State.lt_length_of_route (s := s) (i := j) (by rw [enabled]; exact nofun)
    have read : s.routes[j]? = some (s.route j) := by simp [State.route, List.getD_eq_getElem?_getD, inside]
    exact ⟨s.route j, j, read, ⟨other, enabled⟩, passes⟩

/-- Some other ENABLED entry has the port and identifier of a set of fields (R5, check 2). -/
def State.Doubled (s : State) (entry : Nat) (f : RouteFields) : Prop :=
  ∃ j, j ≠ entry ∧ (s.route j).state = .enabled ∧ (s.route j).fields.port = f.port ∧ (s.route j).fields.ident = f.ident

/-- Some other ENABLED entry has the class of a set of fields, and it is not PASS (R5, check 3). -/
def State.ClassTaken (s : State) (entry : Nat) (f : RouteFields) : Prop :=
  f.cls ≠ .pass ∧ ∃ j, j ≠ entry ∧ (s.route j).state = .enabled ∧ (s.route j).fields.cls = f.cls

/-- The checks of ENABLE ROUTE in their order (R5). -/
theorem State.enableResult_order (s : State) (entry : Nat) (f : RouteFields) :
    (f.relationsFail = true → s.enableResult entry f = .badOperand) ∧
    (f.relationsFail = false → s.Doubled entry f → s.enableResult entry f = .duplicate) ∧
    (f.relationsFail = false → ¬s.Doubled entry f → s.ClassTaken entry f → s.enableResult entry f = .classTaken) ∧
    (f.relationsFail = false → ¬s.Doubled entry f → ¬s.ClassTaken entry f → s.enableResult entry f = .done) := by
  have doubled : s.otherEnabled entry (fun g => decide (g.port = f.port ∧ g.ident = f.ident)) = true ↔ s.Doubled entry f := by
    rw [State.otherEnabled_iff]
    simp only [decide_eq_true_eq]
    rfl
  have taken : (decide (f.cls ≠ .pass) && s.otherEnabled entry (fun g => decide (g.cls = f.cls))) = true ↔ s.ClassTaken entry f := by
    rw [Bool.and_eq_true, State.otherEnabled_iff]
    simp only [decide_eq_true_eq]
    rfl
  unfold State.enableResult
  refine ⟨fun fails => if_pos fails, fun related twice => ?_, fun related once held => ?_, fun related once free => ?_⟩
  · rw [if_neg (by simp [related]), if_pos (doubled.2 twice)]
  · rw [if_neg (by simp [related]), if_neg (mt doubled.1 once), if_pos (taken.2 held)]
  · rw [if_neg (by simp [related]), if_neg (mt doubled.1 once), if_neg (mt taken.1 free)]

/-- An entry is enabled only when its relations hold and no other ENABLED entry has its port and identifier or its class (R5). -/
theorem State.enableResult_done {s : State} {entry : Nat} {f : RouteFields} (done : s.enableResult entry f = .done) :
    f.relationsFail = false ∧ ¬s.Doubled entry f ∧ ¬s.ClassTaken entry f := by
  obtain ⟨bad, duplicate, classTaken, -⟩ := s.enableResult_order entry f
  cases related : f.relationsFail with
  | true => exact nomatch done.symm.trans (bad related)
  | false =>
    have once : ¬s.Doubled entry f := fun twice => nomatch done.symm.trans (duplicate related twice)
    exact ⟨rfl, once, fun taken => nomatch done.symm.trans (classTaken related once taken)⟩

/-- An entry that passes the checks of ENABLE ROUTE joins the ENABLED ones without a collision (R5). -/
theorem State.RoutesSound.enable {s : State} (h : s.RoutesSound) {i : Nat} (inside : i < s.routes.length)
    (passes : s.enableResult i (s.route i).fields = .done) : (s.modifyRoute i RouteEntry.enable).RoutesSound := by
  obtain ⟨relations, once, free⟩ := State.enableResult_done passes
  have here : (s.modifyRoute i RouteEntry.enable).route i = (s.route i).enable := State.route_modifyRoute_same _ _ inside
  have there : ∀ {j}, j ≠ i → (s.modifyRoute i RouteEntry.enable).route j = s.route j := State.route_modifyRoute_ne _ _
  refine ⟨by simpa [State.modifyRoute] using h.length, ?_, ?_, ?_⟩
  · intro j k apart enabledJ enabledK
    by_cases atJ : j = i
    · subst atJ
      rw [here, there (Ne.symm apart)] at *
      exact fun ⟨port, ident⟩ => once ⟨k, Ne.symm apart, enabledK, port.symm, ident.symm⟩
    · rw [there atJ] at *
      by_cases atK : k = i
      · subst atK
        rw [here]
        exact fun same => once ⟨j, atJ, enabledJ, same⟩
      · rw [there atK] at *
        exact h.apart j k apart enabledJ enabledK
  · intro j k apart enabledJ enabledK
    by_cases atJ : j = i
    · subst atJ
      rw [here, there (Ne.symm apart)] at *
      exact fun consuming same => free ⟨consuming, k, Ne.symm apart, enabledK, same.symm⟩
    · rw [there atJ] at *
      by_cases atK : k = i
      · subst atK
        rw [here]
        exact fun consuming same => free ⟨fun pass => consuming (same.trans pass), j, atJ, enabledJ, same⟩
      · rw [there atK] at *
        exact h.classes j k apart enabledJ enabledK
  · intro j enabled
    by_cases atJ : j = i
    · subst atJ
      rw [here]
      exact relations
    · rw [there atJ] at *
      exact h.relations j enabled

end Sys2Proof.Machine
end

section
/-! Every step keeps the route table and the stream records sound, and each cause mark equal to the condition its owner holds: what
changes a condition tells the fault unit so at the same event (R2, R5, R16 to R23, R158). -/

namespace Sys2Proof.Machine

/-! ## The conditions that the owners hold (R23, R48, R117, R155) -/

/-- The condition of a class as its owner holds it; an event class has none. -/
def RecordCore.condition (k : RecordCore) : FaultClass → Bool
  | .inertialLoss => (k.stream .inertial).state.out
  | .wheelLoss => (k.stream .wheelFront).state.out || (k.stream .wheelRear).state.out
  | .portBFault => k.portFault .b
  | .leanSaturation => k.saturated
  | .governDegraded => k.degraded
  | .portAFault => k.portFault .a
  | .signalImplausible | .streamFlood | .sequenceError | .holdExpiry | .inertialOverrun | .readbackMismatch => false

/-- The condition of a class in a state. -/
def State.condition (s : State) : FaultClass → Bool := s.recordCore.condition

theorem RecordCore.condition_marks (k : RecordCore) (marks : List Bool) : ({ k with marks := marks } : RecordCore).condition = k.condition := by
  funext c
  cases c <;> rfl

@[simp] theorem State.condition_handOffs (s : State) (hs : List HandOff) : (s.handOffs hs).condition = s.condition := by
  rw [State.condition, State.recordCore_handOffs, RecordCore.condition_marks]
  rfl

/-- The cause marks match when each condition class has its owner's condition. -/
theorem State.causesMatch_iff (s : State) :
    s.CausesMatch ↔ s.faults.causes.length = 12 ∧ ∀ c, c.isCondition → (s.faults.record c).cause = s.condition c := by
  rw [FaultUnit.causes_length]
  constructor
  · intro h
    refine ⟨h.length, fun c condition => ?_⟩
    cases c with
    | inertialLoss => exact h.inertialLoss
    | wheelLoss => exact h.wheelLoss
    | portBFault => exact h.portBFault
    | leanSaturation => exact h.leanSaturation
    | governDegraded => exact h.governDegraded
    | portAFault => exact h.portAFault
    | signalImplausible | streamFlood | sequenceError | holdExpiry | inertialOverrun | readbackMismatch => exact nomatch condition
  · rintro ⟨length, marks⟩
    exact ⟨length, marks .inertialLoss rfl, marks .wheelLoss rfl, marks .portBFault rfl, marks .leanSaturation rfl,
      marks .governDegraded rfl, marks .portAFault rfl⟩

/-- The match of causes is read off the core. -/
theorem State.CausesMatch.of_core {s t : State} (h : s.CausesMatch) (e : t.recordCore = s.recordCore) : t.CausesMatch := by
  have marks : t.faults.causes = s.faults.causes := congrArg (·.marks) e
  rw [State.causesMatch_iff] at h ⊢
  obtain ⟨length, causes⟩ := h
  refine ⟨marks ▸ length, fun c condition => ?_⟩
  rw [FaultUnit.cause_eq, marks, ← FaultUnit.cause_eq, causes c condition, State.condition, State.condition, e]

/-! ## Hand-offs that tell what has changed -/

/-- From one state to another no mark has moved, and the hand-offs say of each condition that has changed, and truly, what it is. -/
structure State.Tells (s t : State) (hs : List HandOff) : Prop where
  marks : t.faults.causes = s.faults.causes
  agrees : ∀ h ∈ hs, ∀ c b, h.told = some (c, b) → b = t.condition c
  tells : ∀ c, t.condition c = s.condition c ∨ ∃ h ∈ hs, h.told = some (c, t.condition c)

namespace State.Tells

/-- Nothing has changed and nothing is said. -/
theorem refl (s : State) : s.Tells s [] := ⟨rfl, nofun, fun _ => .inl rfl⟩

/-- No condition has changed and nothing is said. -/
theorem silent {s t : State} (marks : t.faults.causes = s.faults.causes) (same : ∀ c, t.condition c = s.condition c) : s.Tells t [] :=
  ⟨marks, nofun, fun c => .inl (same c)⟩

/-- One condition may have changed, and the hand-off says what it is. -/
theorem single {s t : State} {h : HandOff} {c : FaultClass} {b : Bool} (told : h.told = some (c, b))
    (marks : t.faults.causes = s.faults.causes) (truly : t.condition c = b) (others : ∀ d, d ≠ c → t.condition d = s.condition d) :
    s.Tells t [h] where
  marks := marks
  agrees := fun g m d e said => by
    rw [List.mem_singleton.1 m, told] at said
    obtain ⟨rfl, rfl⟩ := Prod.mk.inj (Option.some.inj said)
    exact truly.symm
  tells := fun d => by
    by_cases here : d = c
    · exact .inr ⟨h, List.mem_singleton_self h, by rw [here, truly, told]⟩
    · exact .inl (others d here)

/-- One wheel has changed beside the other: WHEEL_LOSS is present through it, or stands through the other, or is absent (R23). -/
theorem wheel {s t : State} {moved other : Bool} {source : Source} {value : Half} (marks : t.faults.causes = s.faults.causes)
    (others : ∀ d, d ≠ .wheelLoss → t.condition d = s.condition d) (after : t.condition .wheelLoss = (moved || other))
    (before : other = true → s.condition .wheelLoss = true) :
    s.Tells t (if moved then [.present .wheelLoss source value] else if other then [] else [.absent .wheelLoss]) := by
  cases moved with
  | true => exact single rfl marks after others
  | false =>
    cases other with
    | true =>
      refine silent marks fun d => ?_
      by_cases here : d = .wheelLoss
      · rw [here, after, before rfl]
        rfl
      · exact others d here
    | false => exact single rfl marks after others

/-- The fault unit's marks match again once it has heard. -/
theorem causesMatch {s t : State} {hs : List HandOff} (tells : s.Tells t hs) (h : s.CausesMatch) : (t.handOffs hs).CausesMatch := by
  rw [State.causesMatch_iff] at h ⊢
  obtain ⟨length, causes⟩ := h
  have before : t.faults.causes.length = 12 := (congrArg List.length tells.marks).trans length
  refine ⟨(t.handOffs_length hs).trans before, fun c condition => ?_⟩
  rw [State.condition_handOffs]
  refine State.handOffs_cause before (fun h m b told => tells.agrees h m c b told) ?_
  refine (tells.tells c).imp_left fun same => ?_
  rw [FaultUnit.cause_eq, tells.marks, ← FaultUnit.cause_eq, causes c condition, same]

/-- Occurrences raised at the same event say nothing of conditions (R159). -/
theorem raised {s t : State} {hs : List HandOff} (tells : s.Tells t hs) {events : List HandOff} (silent : ∀ h ∈ events, h.told = none) :
    s.Tells t (events ++ hs) where
  marks := tells.marks
  agrees := fun h m c b told => by
    rcases List.mem_append.1 m with m | m
    · exact absurd told (by simp [silent h m])
    · exact tells.agrees h m c b told
  tells := fun c => (tells.tells c).imp_right fun ⟨h, m, told⟩ => ⟨h, List.mem_append_right _ m, told⟩

/-- An occurrence alone says nothing of conditions. -/
theorem event (s : State) {h : HandOff} (silent : h.told = none) : s.Tells s [h] :=
  (refl s).raised (events := [h]) fun g m => by rwa [List.mem_singleton.1 m]

/-- What is told from a state that shares the core is told from the state. -/
theorem after {s s' t : State} {hs : List HandOff} (tells : s'.Tells t hs) (e : s'.recordCore = s.recordCore) : s.Tells t hs where
  marks := tells.marks.trans (congrArg (·.marks) e)
  agrees := tells.agrees
  tells := fun c => (tells.tells c).imp_left fun same => same.trans (by rw [State.condition, State.condition, e])

/-- Two changes one after the other, where what the first said stands after the second, or is said again the same. -/
theorem append {s t u : State} {hs gs : List HandOff} (first : s.Tells t hs) (second : t.Tells u gs)
    (same : ∀ h ∈ hs, ∀ g ∈ gs, ∀ c b d, h.told = some (c, b) → g.told = some (c, d) → b = d) : s.Tells u (hs ++ gs) where
  marks := second.marks.trans first.marks
  agrees := fun h m c b told => by
    rcases List.mem_append.1 m with m | m
    · rcases second.tells c with stands | ⟨g, n, again⟩
      · exact (first.agrees h m c b told).trans stands.symm
      · exact same h m g n c b _ told again
    · exact second.agrees h m c b told
  tells := fun c => by
    rcases second.tells c with stands | ⟨g, n, again⟩
    · rcases first.tells c with stood | ⟨h, m, told⟩
      · exact .inl (stands.trans stood)
      · exact .inr ⟨h, List.mem_append_left _ m, by rwa [stands]⟩
    · exact .inr ⟨g, List.mem_append_right _ n, again⟩

end State.Tells

/-! ## A moved stream tells its changes (R23) -/

/-- A replaced stream record changes the condition it bears on alone, which is told. -/
theorem State.setStream_tells (s : State) (i : StreamId) (source : Source) (r : StreamRecord) :
    s.Tells (s.setStream i r) ((s.setStream i r).streamHandOffs i source) := by
  cases i with
  | inertial =>
    have others : ∀ d, d ≠ .inertialLoss → (s.setStream .inertial r).condition d = s.condition d := fun d other => by
      cases d <;> first | rfl | exact absurd rfl other
    unfold State.streamHandOffs
    simp only
    split
    · rename_i out
      exact .single rfl rfl out others
    · rename_i out
      exact .single rfl rfl (Bool.eq_false_of_not_eq_true out) others
  | wheelFront =>
    exact .wheel rfl (fun d other => by cases d <;> first | rfl | exact absurd rfl other) rfl
      fun rear => Bool.or_eq_true_iff.2 (.inr rear)
  | wheelRear =>
    exact .wheel rfl (fun d other => by cases d <;> first | rfl | exact absurd rfl other) (Bool.or_comm _ _)
      fun front => Bool.or_eq_true_iff.2 (.inl front)
  | torqueRequest | riderSelect => exact .silent rfl fun d => by cases d <;> rfl

/-- A record whose stream stays as far out as it was changes no condition. -/
theorem State.setStream_tells_same (s : State) {i : StreamId} {r : StreamRecord} (out : r.state.out = (s.stream i).state.out) :
    s.Tells (s.setStream i r) [] := by
  refine .silent (by cases i <;> rfl) fun d => ?_
  cases i <;> cases d <;>
    simp_all [State.condition, RecordCore.condition, State.recordCore, State.stream, State.setStream, State.port]

/-- A governing loss falls to LIMP and says so, or leaves the state as it is (R111 to R113). -/
theorem State.governingLoss_tells (s : State) : s.Tells s.governingLoss s.lossHandOffs := by
  unfold State.governingLoss State.lossHandOffs
  split
  · exact .single rfl rfl rfl fun d other => by cases d <;> first | rfl | exact absurd rfl other
  · refine .silent (by split <;> rfl) fun d => ?_
    split <;> cases d <;> rfl

/-- The owners' writes when a stream leaves the trusted states, and what they say of them (R23). -/
theorem State.leaveTrusted_tells (s : State) (i : StreamId) : s.Tells (s.leaveTrusted i) (s.leaveHandOffs i) := by
  cases i with
  | inertial =>
    have dropped : s.Tells s.invalidateLean [.absent .leanSaturation] :=
      .single rfl rfl rfl fun d other => by cases d <;> first | rfl | exact absurd rfl other
    refine dropped.append s.invalidateLean.governingLoss_tells fun h m g n c b d told again => ?_
    rw [List.mem_singleton.1 m] at told
    obtain ⟨rfl, -⟩ := Prod.mk.inj (Option.some.inj told)
    split at n
    · rw [List.mem_singleton.1 n] at again
      exact nomatch again
    · exact nomatch n
  | wheelFront | wheelRear => exact s.governingLoss_tells
  | torqueRequest | riderSelect => exact .refl s

/-! ## What the hand-offs of a moved stream say -/

theorem State.told_of_lossHandOffs {s : State} {h : HandOff} (m : h ∈ s.lossHandOffs) : h.told = some (.governDegraded, true) := by
  unfold State.lossHandOffs at m
  split at m
  · rw [List.mem_singleton.1 m]
    rfl
  · exact nomatch m

theorem State.told_of_leaveHandOffs {s : State} {i : StreamId} {h : HandOff} (m : h ∈ s.leaveHandOffs i) :
    h.told = some (.leanSaturation, false) ∨ h.told = some (.governDegraded, true) := by
  cases i with
  | inertial =>
    rcases List.mem_cons.1 m with rfl | m
    · exact .inl rfl
    · exact .inr (State.told_of_lossHandOffs m)
  | wheelFront | wheelRear => exact .inr (State.told_of_lossHandOffs m)
  | torqueRequest | riderSelect => exact nomatch m

/-- The re-evaluated condition is a loss, and present while the stream itself is out (R23). -/
theorem State.told_of_streamHandOffs {s : State} {i : StreamId} {source : Source} {h : HandOff} (m : h ∈ s.streamHandOffs i source) :
    ∃ c b, h.told = some (c, b) ∧ (c = .inertialLoss ∨ c = .wheelLoss) ∧ ((s.stream i).state.out → b = true) := by
  unfold State.streamHandOffs at m
  split at m
  · split at m <;> rw [List.mem_singleton.1 m]
    · exact ⟨_, _, rfl, .inl rfl, fun _ => rfl⟩
    · rename_i inside
      exact ⟨_, _, rfl, .inl rfl, fun out => absurd out inside⟩
  iterate 2
    · split at m
      · rw [List.mem_singleton.1 m]
        exact ⟨_, _, rfl, .inr rfl, fun _ => rfl⟩
      · rename_i inside
        split at m
        · exact nomatch m
        · rw [List.mem_singleton.1 m]
          exact ⟨_, _, rfl, .inr rfl, fun out => absurd out inside⟩
  · exact nomatch m
  · exact nomatch m

/-- A moved stream tells every condition that its change moves (R23). -/
theorem State.moveStream_tells (s : State) (i : StreamId) (source : Source) (r : StreamRecord) :
    s.Tells (s.moveStream i source r).1 (s.moveStream i source r).2 := by
  unfold State.moveStream
  simp only
  split
  · refine (s.setStream_tells i source r).append (State.leaveTrusted_tells _ i) fun h m g n c b d told again => ?_
    obtain ⟨_, _, said, loss, -⟩ := State.told_of_streamHandOffs m
    obtain ⟨rfl, rfl⟩ := Prod.mk.inj (Option.some.inj (said.symm.trans told))
    rcases State.told_of_leaveHandOffs n with spoken | spoken <;> rw [spoken] at again <;>
      · obtain ⟨rfl, -⟩ := Prod.mk.inj (Option.some.inj again)
        exact loss.elim nofun nofun
  · split
    · exact s.setStream_tells i source r
    · rename_i same
      exact s.setStream_tells_same (by simp_all)

/-- A hand-off that speaks as a loss does: a condition is present, and LEAN_SATURATION absent with the estimate (R23, R50). -/
def HandOff.SpeaksOfLoss (h : HandOff) : Prop := ∀ c b, h.told = some (c, b) → b = decide (c ≠ .leanSaturation)

/-- A flooded stream speaks as a loss does (R20). -/
theorem State.moveStream_flood_speaks (s : State) (i : StreamId) (source : Source) :
    ∀ h ∈ (s.moveStream i source (s.stream i).flood).2, h.SpeaksOfLoss := by
  rcases (s.stream i).state.cases_trust with unseen | trusted | out
  · rw [State.moveStream_same _ _ _ _ (by rw [StreamRecord.flood_unseen unseen]) (by rw [StreamRecord.flood_unseen unseen])]
    exact nofun
  · intro h m c b told
    have flood := StreamRecord.flood_trusted trusted
    have left : (s.stream i).state.trusted ∧ (s.stream i).flood.state.trusted = false := ⟨trusted, by rw [flood]; rfl⟩
    simp only [State.moveStream, if_pos left] at m
    rcases List.mem_append.1 m with m | m
    · obtain ⟨_, _, said, loss, out⟩ := State.told_of_streamHandOffs m
      obtain ⟨rfl, rfl⟩ := Prod.mk.inj (Option.some.inj (said.symm.trans told))
      rw [out (by rw [State.stream_setStream_same, flood]; rfl)]
      rcases loss with rfl | rfl <;> rfl
    · rcases State.told_of_leaveHandOffs m with said | said <;>
        · obtain ⟨rfl, rfl⟩ := Prod.mk.inj (Option.some.inj (said.symm.trans told))
          rfl
  · rw [State.moveStream_same _ _ _ _ (by rw [StreamRecord.flood_out out]) (by rw [StreamRecord.flood_out out])]
    exact nofun

/-- The floods of a window expiry tell every condition that they move, and none takes back what another said (R9, R20). -/
theorem State.floods_tell (s : State) (xs : List (Nat × RouteEntry)) {acc : State × List HandOff} (tells : s.Tells acc.1 acc.2)
    (speaks : ∀ h ∈ acc.2, h.SpeaksOfLoss) :
    s.Tells (xs.foldl floodEntry acc).1 (xs.foldl floodEntry acc).2 := by
  induction xs generalizing acc with
  | nil => exact tells
  | cons x xs ih =>
    refine ih ?_ ?_ <;> unfold floodEntry <;> simp only
    · split
      · exact tells.append (.event _ rfl)
          fun h m g n c b d told again => absurd again (by rw [List.mem_singleton.1 n]; exact nofun)
      · rename_i i _
        refine tells.append ((State.moveStream_tells _ i _ _).raised (events := [_]) fun h m => by rw [List.mem_singleton.1 m]; rfl)
          fun h m g n c b d told again => ?_
        rcases List.mem_cons.1 n with rfl | n
        · exact nomatch again
        · rw [speaks h m c b told, State.moveStream_flood_speaks _ i _ g n c d again]
    · split
      · intro h m
        rcases List.mem_append.1 m with m | m
        · exact speaks h m
        · rw [List.mem_singleton.1 m]
          exact nofun
      · intro h m
        rcases List.mem_append.1 m with m | m
        · exact speaks h m
        · rcases List.mem_cons.1 m with rfl | m
          · exact nofun
          · exact State.moveStream_flood_speaks _ _ _ h m

end Sys2Proof.Machine
end

section
/-! The traversal of every command: what moves the route table, the stream records and the conditions, and that each leaves them sound and
told (R2, R5, R16 to R23, R155, R158). -/

namespace Sys2Proof.Machine

/-- From one state to another the route table and the stream records stay sound, and the cause marks equal to the conditions. -/
structure RecordsKept (s t : State) : Prop where
  routes : s.RoutesSound → t.RoutesSound
  streams : s.StreamsSound → t.StreamsSound
  causes : s.CausesMatch → t.CausesMatch

namespace RecordsKept

theorem same {s t : State} (e : t.recordCore = s.recordCore) : RecordsKept s t where
  routes := fun h => h.of_shapes (congrArg (·.shapes) e)
  streams := fun h i => (congrFun (congrArg (·.stream) e) i : t.stream i = s.stream i) ▸ h i
  causes := fun h => h.of_core e

theorem refl (s : State) : RecordsKept s s := same rfl

theorem trans {s t u : State} (m : RecordsKept s t) (n : RecordsKept t u) : RecordsKept s u :=
  ⟨n.routes ∘ m.routes, n.streams ∘ m.streams, n.causes ∘ m.causes⟩

theorem after {s t u : State} (m : RecordsKept t u) (e : t.recordCore = s.recordCore) : RecordsKept s u := (same e).trans m

theorem before {s t u : State} (m : RecordsKept s t) (e : u.recordCore = t.recordCore) : RecordsKept s u := m.trans (same e)

theorem ite {c : Prop} [Decidable c] {s t : State} (m : RecordsKept s t) : RecordsKept s (if c then t else s) := by
  split
  · exact m
  · exact refl s

/-- A change of the owners that is told at the same event. -/
theorem told {s t : State} {hs : List HandOff} (routes : s.RoutesSound → t.RoutesSound) (streams : s.StreamsSound → t.StreamsSound)
    (tells : s.Tells t hs) : RecordsKept s (t.handOffs hs) where
  routes := fun h => (routes h).of_shapes rfl
  streams := fun h i => (State.stream_handOffs t hs i).symm ▸ streams h i
  causes := tells.causesMatch

/-- A change of one condition outside table and streams, which one hand-off tells. -/
theorem toldOne {s t : State} {h : HandOff} {c : FaultClass} {b : Bool} (said : h.told = some (c, b)) (routes : t.routes = s.routes)
    (streams : ∀ i, t.stream i = s.stream i) (faults : t.faults = s.faults) (truly : t.condition c = b)
    (others : ∀ d, d ≠ c → t.condition d = s.condition d) : RecordsKept s (t.handOff h) := by
  rw [← State.handOffs_one]
  exact told (fun g => g.of_shapes (congrArg _ routes)) (fun g i => streams i ▸ g i) (.single said (congrArg _ faults) truly others)

/-- An occurrence moves no condition (R157). -/
theorem event (s : State) {h : HandOff} (silent : h.told = none) : RecordsKept s (s.handOff h) := by
  rw [← State.handOffs_one]
  exact told id id (.event s silent)

/-! ## Streams and received frames -/

/-- A moved stream and what it hands over, with what is raised at the same event (R23, R159). -/
theorem moved (s : State) (i : StreamId) (source : Source) {r : StreamRecord} (sound : (s.stream i).Sound → r.Sound)
    {raised : List HandOff} (silent : ∀ h ∈ raised, h.told = none) :
    RecordsKept s ((s.moveStream i source r).1.handOffs (raised ++ (s.moveStream i source r).2)) :=
  told (fun h => h.of_shapes (by simp))
    (fun h => h.of_one (i := i) (fun j other => State.stream_moveStream_ne _ _ _ other)
      (by rw [State.stream_moveStream_same]; exact sound))
    ((s.moveStream_tells i source r).raised silent)

/-- The closing of the policing windows, with the floods told (R9, R20). -/
theorem windowExpiry (s : State) : RecordsKept s s.windowExpiry := by
  have streams : ∀ (xs : List (Nat × RouteEntry)) (acc : State × List HandOff),
      (acc.1.RoutesSound → (xs.foldl floodEntry acc).1.RoutesSound) ∧ (acc.1.StreamsSound → (xs.foldl floodEntry acc).1.StreamsSound) := by
    intro xs
    induction xs with
    | nil => exact fun acc => ⟨id, id⟩
    | cons x xs ih =>
      intro acc
      have one : (acc.1.RoutesSound → (floodEntry acc x).1.RoutesSound) ∧ (acc.1.StreamsSound → (floodEntry acc x).1.StreamsSound) := by
        unfold floodEntry
        simp only
        split
        · exact ⟨id, id⟩
        · exact ⟨fun h => h.of_shapes (by simp), fun h => h.of_one (fun j other => State.stream_moveStream_ne _ _ _ other)
            (by rw [State.stream_moveStream_same]; exact StreamRecord.Sound.flood)⟩
      exact ⟨(ih _).1 ∘ one.1, (ih _).2 ∘ one.2⟩
  unfold State.windowExpiry
  simp only
  refine after (told (streams _ (_, [])).1 (streams _ (_, [])).2 (State.floods_tell _ _ (.refl _) nofun)) ?_
  refine State.recordCore_congr ?_ (fun i => by cases i <;> rfl) rfl rfl (fun p => by cases p <;> rfl) rfl
  rw [List.map_map]
  rfl

theorem joinSample (s : State) (x : Sample) : RecordsKept s (s.joinSample x) := by
  have room : RecordsKept s s.makeRoom := by
    unfold State.makeRoom
    split
    · split
      · exact after (event _ rfl) (by rfl)
      · exact refl s
    · exact refl s
  exact (room.before (u := s.makeRoom.appendSample x) rfl).trans (same ((State.recordCore_choose _).trans rfl))

theorem dispatch (s : State) (i : StreamId) (index : Nat) (e : RouteFields) (f : Frame) (v : Values) :
    RecordsKept s (s.dispatch i index e f v) := by
  cases v with
  | inertial roll yaw lateral => exact ite (joinSample s _)
  | speed v => exact refl s
  | torque t clamped => exact same ((State.recordCore_askCeiling _).trans rfl)
  | selection mode load traction => exact ite (same (State.recordCore_setWanted _ _))

theorem supervise (s : State) (i : StreamId) (index : Nat) (p : PortId) (e : RouteFields) (f : Frame) :
    RecordsKept s (s.supervise i index p e f) := by
  unfold State.supervise
  split
  · rename_i cls value rejected
    refine after (moved (s.countRoute index RouteCounts.reject) i (.route index) (r := (s.stream i).reject) (fun h => ?_)
      (raised := [.event cls (.route index) value]) fun h m => ?_) (s.recordCore_countRoute index _)
    · rw [State.stream_countRoute] at h
      exact h.reject
    · rw [List.mem_singleton.1 m]
      rfl
  · exact same (s.recordCore_countRoute index _)
  · rename_i v sequenceError _
    have recorded : RecordsKept s (s.recordAccepted i index e f v sequenceError) := by
      refine after (moved (s.countRoute index (·.accept sequenceError v.isClamped)) i (.route index) (fun h => ?_) fun h m => ?_)
        (s.recordCore_countRoute index _)
      · rw [State.stream_countRoute] at h
        exact h.accept _ _ _ _ _
      · split at m
        · rw [List.mem_singleton.1 m]
          rfl
        · exact nomatch m
    exact (recorded.trans (dispatch _ i index e f v)).before (State.recordCore_forwardConsumed _ _ _ _ _ _)

/-! ## Commands -/

theorem answered {s : State} {a : Answer} (m : RecordsKept s a.state) (x : Sender) (code tag : Byte) :
    RecordsKept s (a.send x code tag) := m.before (Answer.recordCore_send _ _ _ _)

/-- A command behind the standstill gate moves what its owner moves (R177). -/
theorem gated {s : State} {code tag : Byte} {run : State → State} (m : RecordsKept s (run s)) :
    RecordsKept s (s.gated code tag run) := by
  unfold State.gated
  split
  · exact m
  · exact same (State.recordCore_refuseMoving _ _ _)

/-- An entry written reaches the table alone. -/
theorem entryWritten {s : State} {i : Nat} {f : RouteEntry → RouteEntry} (routes : s.RoutesSound → (s.modifyRoute i f).RoutesSound) :
    RecordsKept s (s.modifyRoute i f) where
  routes := routes
  streams := fun h j => h j
  causes := fun h => ⟨h.length, h.inertialLoss, h.wheelLoss, h.portBFault, h.leanSaturation, h.governDegraded, h.portAFault⟩

theorem writeRoute (s : State) (entry field v : Nat) : RecordsKept s (s.writeRoute entry field v).state := by
  unfold State.writeRoute
  split
  · exact refl s
  split
  · exact refl s
  · exact refl s
  · rename_i disabled
    split
    · exact refl s
    · exact entryWritten fun h => h.modify_idle (State.lt_length_of_route (by rw [disabled]; nofun)) (by simp [disabled])

theorem enableRouteAt (s : State) (entry : Nat) : RecordsKept s (s.enableRouteAt entry).state := by
  unfold State.enableRouteAt
  split
  · exact refl s
  split
  · exact refl s
  · exact refl s
  · rename_i disabled
    split
    · rename_i passes
      exact entryWritten fun h => h.enable (State.lt_length_of_route (by rw [disabled]; nofun)) passes
    · exact refl s

theorem disableEnabled {s : State} {entry : Nat} (enabled : (s.route entry).state = .enabled) :
    RecordsKept s (s.disableEnabled entry) := by
  have left : RecordsKept s (s.modifyRoute entry fun e => { e with state := .disabled }) :=
    entryWritten fun h => h.modify_idle (State.lt_length_of_route (by rw [enabled]; nofun)) nofun
  unfold State.disableEnabled
  simp only
  split
  · exact left
  · exact left.trans (moved _ _ _ (fun _ => unseenRecord_sound) (raised := []) nofun)

theorem disableRouteAt (s : State) (entry : Nat) : RecordsKept s (s.disableRouteAt entry).state := by
  unfold State.disableRouteAt
  split
  · exact refl s
  · rename_i inside
    split
    · exact disableEnabled ‹_›
    · exact refl s
    · exact entryWritten fun h => h.modify_idle (by rw [h.length]; omega) nofun

/-- A restart leaves no stream out, no saturation and no degradation, and says so (R22, R173, R184). -/
theorem restart (s : State) : RecordsKept s s.restart := by
  have tells : ∀ t : State, (∀ i, t.stream i = unseenRecord) → t.lean.saturated = false → t.governor.degraded = false →
      (∀ p, t.port p = s.port p) → t.faults = s.faults → s.Tells t restartHandOffs := by
    intro t streams saturated degraded ports faults
    have inertial : t.condition .inertialLoss = false := by simp [State.condition, RecordCore.condition, State.recordCore, streams]; rfl
    have wheels : t.condition .wheelLoss = false := by simp [State.condition, RecordCore.condition, State.recordCore, streams]; rfl
    have port : ∀ p, t.recordCore.portFault p = s.recordCore.portFault p := fun p => by simp [State.recordCore, ports]
    refine ⟨congrArg _ faults, fun h m c b told => ?_, fun c => ?_⟩
    · simp only [restartHandOffs, List.mem_cons, List.not_mem_nil, or_false] at m
      rcases m with rfl | rfl | rfl | rfl <;> obtain ⟨rfl, rfl⟩ := Prod.mk.inj (Option.some.inj told)
      · exact inertial.symm
      · exact wheels.symm
      · exact saturated.symm
      · exact degraded.symm
    · cases c with
      | inertialLoss => exact .inr ⟨_, List.mem_cons_self, by rw [inertial]; rfl⟩
      | wheelLoss => exact .inr ⟨.absent .wheelLoss, by simp [restartHandOffs], by rw [wheels]; rfl⟩
      | leanSaturation => exact .inr ⟨.absent .leanSaturation, by simp [restartHandOffs], by rw [show t.condition .leanSaturation = _ from saturated]; rfl⟩
      | governDegraded => exact .inr ⟨.absent .governDegraded, by simp [restartHandOffs], by rw [show t.condition .governDegraded = _ from degraded]; rfl⟩
      | portBFault => exact .inl (port .b)
      | portAFault => exact .inl (port .a)
      | signalImplausible | streamFlood | sequenceError | holdExpiry | inertialOverrun | readbackMismatch => exact .inl rfl
  exact told (fun h => h.of_shapes rfl) (fun _ i => by cases i <;> exact unseenRecord_sound)
    (tells _ (fun i => by cases i <;> rfl) rfl rfl (fun p => by cases p <;> rfl) rfl)

/-- Every command that the command unit runs keeps them (R178). -/
theorem runCommand (s : State) (c : Instr) : RecordsKept s (s.runCommand c) := by
  cases c with
  | writePageEntry tag page table index value =>
    unfold State.runCommand State.runWritePage
    exact gated (answered (same (s.recordCore_writePage _ _ _ _)) _ _ _)
  | sealPage tag page =>
    unfold State.runCommand State.runSealPage
    exact gated (same (s.recordCore_sealPageAt tag page))
  | unsealPage tag page =>
    unfold State.runCommand State.runUnsealPage
    exact gated (answered (same (s.recordCore_unsealPageAt _)) _ _ _)
  | mapPage tag slot expected new =>
    unfold State.runCommand State.runMapPage
    exact gated (answered (same (s.recordCore_mapPageAt _ _ _)) _ _ _)
  | writeRouteField tag entry field value =>
    unfold State.runCommand State.runWriteRoute
    exact gated (answered (writeRoute s _ _ _) _ _ _)
  | enableRoute tag entry =>
    unfold State.runCommand State.runEnableRoute
    exact gated (answered (enableRouteAt s _) _ _ _)
  | disableRoute tag entry =>
    unfold State.runCommand State.runDisableRoute
    exact gated (answered (disableRouteAt s _) _ _ _)
  | writeChassisSetting tag item value =>
    unfold State.runCommand State.runWriteChassis
    exact gated (answered (same (s.recordCore_writeChassis _ _)) _ _ _)
  | restartGovernor tag =>
    unfold State.runCommand State.runRestart
    exact gated ((restart s).before (State.recordCore_reply _ _ _ _ _ _))
  | monitorOnOff tag value => exact answered (same (s.recordCore_setMonitor _)) _ _ _
  | clearCapture tag => exact same ((State.recordCore_reply _ _ _ _ _ _).trans rfl)
  | ackAlert sender tag cls => exact answered (same (s.recordCore_acknowledgeAt _)) _ _ _
  | readPageEntry tag page table index => exact answered (by rw [State.state_readPage]; exact refl s) _ _ _
  | readRouteField tag entry field => exact answered (by rw [State.state_readRoute]; exact refl s) _ _ _
  | readChassisSetting tag item => exact answered (by rw [State.state_readChassis]; exact refl s) _ _ _
  | readState sender tag item selector part => exact answered (by rw [State.state_readItem]; exact refl s) _ _ _
  | readCounter tag block selector counter => exact answered (by rw [State.state_readCount]; exact refl s) _ _ _
  | readCapture sender tag =>
    exact same ((State.recordCore_reply _ _ _ _ _ _).trans (State.recordCore_reply _ _ _ _ _ _))
  | _ => exact refl s

theorem takeCommandFrame (s : State) (sender : Sender) (data : List Byte) : RecordsKept s (s.takeCommandFrame sender data) := by
  unfold State.takeCommandFrame State.runFrame
  simp only
  split
  · exact same rfl
  · split
    · exact same ((State.recordCore_reply _ _ _ _ _ _).trans rfl)
    · split
      · exact after (runCommand (s.countTaken sender) _) rfl
      · exact same ((State.recordCore_reply _ _ _ _ _ _).trans rfl)

theorem treat (s : State) (index : Nat) (p : PortId) (e : RouteFields) (f : Frame) : RecordsKept s (s.treat index p e f) := by
  unfold State.treat
  split
  · exact supervise s _ _ _ _ _
  · exact supervise s _ _ _ _ _
  · exact supervise s _ _ _ _ _
  · exact supervise s _ _ _ _ _
  · exact supervise s _ _ _ _ _
  · exact takeCommandFrame s _ _
  · exact takeCommandFrame s _ _
  · exact same (State.recordCore_forwardFrame s _ _ _ _)

theorem receivedFrame {s t : State} {p : PortId} {f : Frame} (e : exec (.receivedFrame p f) s = .next t) : RecordsKept s t := by
  cases e
  split
  · exact same (State.recordCore_setPort rfl)
  split
  · exact (same (t := s.setPort p (s.port p).countForeign) (State.recordCore_setPort rfl)).trans (event _ rfl)
  have core : (s.setPort p (s.port p).countDelivered).recordCore = s.recordCore := State.recordCore_setPort rfl
  unfold State.deliver State.matchedFrame
  split
  · split
    · exact after (treat _ _ _ _ _) ((State.recordCore_modifyRoute _ _ RouteEntry.countAdmitted fun _ => rfl).trans core)
    · exact same ((State.recordCore_modifyRoute _ _ RouteEntry.dropFrame fun _ => rfl).trans core)
  · exact same ((State.recordCore_unknownFrame _ _ _).trans core)

/-! ## The ends of an attempt, recovery and expiries -/

/-- A port's condition has changed, and is told (R155). -/
theorem portTold {s : State} {p : PortId} {x : Port} {h : HandOff} {b : Bool} (said : h.told = some (portClass p, b))
    (truly : x.faultPresent = b) : RecordsKept s ((s.setPort p x).handOff h) := by
  refine toldOne said (by simp) (by simp) (by simp) (by cases p <;> exact truly) fun d other => ?_
  cases p <;> cases d <;> first | rfl | exact absurd rfl other

/-- A port's condition stands. -/
theorem portStands {s : State} {p : PortId} {x : Port} (stands : x.faultPresent = (s.port p).faultPresent) :
    RecordsKept s (s.setPort p x) where
  routes := fun h => h.of_shapes (by simp)
  streams := fun h i => State.stream_setPort s p x i ▸ h i
  causes := fun h => by
    cases p with
    | a => exact ⟨h.length, h.inertialLoss, h.wheelLoss, h.portBFault, h.leanSaturation, h.governDegraded, h.portAFault.trans stands.symm⟩
    | b => exact ⟨h.length, h.inertialLoss, h.wheelLoss, h.portBFault.trans stands.symm, h.leanSaturation, h.governDegraded, h.portAFault⟩

theorem transmitSuccess {s : State} {p : PortId} (on : (s.port p).mode ≠ .off) : RecordsKept s (s.transmitSuccess p) := by
  have cleared : (s.port p).succeed.faultPresent = false := Port.faultPresent_on (modeOf_ne_off _)
  unfold State.transmitSuccess
  simp only
  refine before ?_ (State.recordCore_arbitrate _ p)
  split
  · exact portTold rfl cleared
  · rename_i low
    exact portStands (by rw [cleared, Port.faultPresent_on on]; simpa using low)

/-- The streak condition of a frame given up: told when the streak reaches 3, and else as it was (R151, R155). -/
theorem giveUpFrame {s : State} {p : PortId} (on : (s.port p).mode ≠ .off) : RecordsKept s (s.giveUpFrame p) := by
  have dropped : (s.port p).giveUp.faultPresent = decide (3 ≤ bump (s.port p).giveUpStreak) := Port.faultPresent_on on
  unfold State.giveUpFrame
  simp only [State.port_setPort_same]
  refine before ?_ (State.recordCore_arbitrate _ p)
  split
  · rename_i third
    exact portTold rfl (dropped.trans (by simp [show bump (s.port p).giveUpStreak = 3 from third]))
  · rename_i other
    have other : bump (s.port p).giveUpStreak ≠ 3 := other
    refine portStands (dropped.trans ?_)
    rw [Port.faultPresent_on on, decide_eq_decide]
    simp only [bump, counterMax] at other ⊢
    omega

theorem transmitFailure {s : State} {p : PortId} {f : SlotFrame} (on : (s.port p).mode ≠ .off) :
    RecordsKept s (s.transmitFailure p f) := by
  have raised_on : (s.port p).countFailure.raiseError.mode ≠ .off := modeOf_ne_off _
  have raised : (s.port p).countFailure.raiseError.faultPresent = (s.port p).faultPresent := by
    rw [Port.faultPresent_on raised_on, Port.faultPresent_on on]
    rfl
  unfold State.transmitFailure
  simp only
  split
  · exact portTold rfl (by simp [Port.faultPresent, Port.enterOff])
  · split
    · exact portStands raised
    · exact (portStands raised).trans (giveUpFrame (by rwa [State.port_setPort_same]))

theorem recoverPort (s : State) (p : PortId) : RecordsKept s (s.recoverPort p) := by
  have told : RecordsKept s (s.backInService p) := portTold rfl (by simp [Port.faultPresent, Port.recover])
  cases p with
  | a =>
    rw [s.recoverPort_a]
    exact told.before (State.recordCore_withFaultSide (FaultSide.resync_alerted _ _) (FaultSide.resync_causes _ _))
  | b => exact told

theorem expireHold (s : State) : RecordsKept s s.expireHold := by
  rcases s.expireHold_cases with ⟨-, e⟩ | ⟨-, r, -, e⟩ <;> rw [e]
  · exact refl s
  · exact after (event (s.answer r true) rfl) (State.recordCore_answer _ _ _)

/-- The START timer of the START state degrades governance, and tells it (R116, R117). -/
theorem startExpiry {s : State} (due : s.startTimerDue) :
    RecordsKept s (({ s with governor := { s.governor with startTimer := .expired } } : State).handOff (.present .governDegraded .absent 1)) := by
  have start : s.governor.state = .start := by
    simp only [State.startTimerDue, Bool.and_eq_true, decide_eq_true_eq] at due
    exact due.1
  refine toldOne (b := true) rfl rfl (fun i => by cases i <;> rfl) rfl ?_ fun d other => by cases d <;> first | rfl | exact absurd rfl other
  simp [State.condition, RecordCore.condition, State.recordCore, Governor.degraded, start]

/-! ## Completions -/

/-- A LEAN completion tells LEAN_SATURATION as its result has it (R48). -/
theorem leanTold (s : State) (n : LeanSnapshot) : RecordsKept s (s.leanTold n) := by
  refine toldOne (c := .leanSaturation) (b := n.result.saturated) ?_ rfl (fun i => by cases i <;> rfl) rfl rfl fun d other => by
    cases d <;> first | rfl | exact absurd rfl other
  have saturated : (s.lean.write n).saturated = n.result.saturated := rfl
  unfold State.saturationHandOff
  simp only [saturated]
  cases n.result.saturated <;> rfl

theorem leanCompletion {s t : State} (e : exec .leanCompletion s = .next t) : RecordsKept s t := by
  cases e
  split
  · split
    · exact same (s.recordCore_finishVoid false)
    · rw [State.leanHandOff_eq]
      exact (leanTold s _).before ((State.recordCore_finishJob _).trans (State.recordCore_decimate _))
  · exact refl s

/-- A commit tells GOVERN_DEGRADED where it changes the state (R110, R117). -/
theorem commit (s : State) (d : Decision) (folded : Bool) : RecordsKept s (s.commit d folded) := by
  have others : ∀ c, c ≠ .governDegraded →
      ({ s with governor := s.governor.commit d folded } : State).condition c = s.condition c := fun c other => by
    cases c <;> first | rfl | exact absurd rfl other
  refine told (fun h => h.of_shapes rfl) (fun h i => by have held := h i; cases i <;> exact held) ?_
  unfold commitHandOffs
  split
  · rename_i stays
    refine .silent rfl fun c => ?_
    by_cases here : c = .governDegraded
    · subst here
      have timer : (s.governor.commit d folded).startTimer = s.governor.startTimer := if_neg fun ⟨start, left⟩ => left (stays.trans start)
      show (s.governor.commit d folded).degraded = s.governor.degraded
      simp only [Governor.degraded, stays, timer]
    · exact others c here
  · split
    · rename_i degraded
      exact .single rfl rfl degraded others
    · rename_i governs
      exact .single rfl rfl (Bool.eq_false_of_not_eq_true governs) others

theorem ceilingCompletion {s t : State} (e : exec .ceilingCompletion s = .next t) : RecordsKept s t := by
  cases e
  split
  · rename_i n isVoid _
    split
    · exact same (s.recordCore_finishVoid true)
    · have committed : RecordsKept s (s.evaluated n) :=
        after (commit ({ s with eval := s.eval.write n (s.decisionOf n) (s.store.page (s.decisionOf n).page) } : State) _ _) rfl
      rw [State.ceilingHandOff_parts]
      refine before ?_ (State.recordCore_finishJob _)
      rcases (s.evaluated n).answerAtCompletion_cases with ⟨r, -, e⟩ | ⟨-, e⟩ <;> rw [e]
      · exact committed.before (State.recordCore_answer _ _ _)
      · exact committed
  · exact refl s

theorem sealStepCompletion {s t : State} (e : exec .sealStepCompletion s = .next t) : RecordsKept s t := by
  cases e
  split
  · exact same ((State.recordCore_finishJob _).trans (State.recordCore_recordStep _ _ _))
  · exact refl s

/-! ## Every command and every step -/

/-- A port that makes an attempt is not OFF (R152). -/
theorem attempting_on {x : Port} {f : SlotFrame} (attempting : x.attempting = some f) : x.mode ≠ .off := by
  intro off
  simp [Port.attempting, off] at attempting

/-- Every command but the power-on reset keeps route table, streams and causes. -/
theorem of_exec {c : Instr} {s t : State} (other : c ≠ .powerOnReset) (e : exec c s = .next t) : RecordsKept s t := by
  cases c with
  | powerOnReset => exact absurd rfl other
  | receivedFrame p f => exact receivedFrame e
  | policingWindowExpiry => cases e; exact ite (windowExpiry s)
  | staleExpiry i =>
    cases e
    split
    · rename_i due
      have stale : ∀ r : StreamRecord, ((s.stream i).Sound → r.Sound) → r.state.out = (s.stream i).state.out →
          RecordsKept s (s.setStream i r) := fun r sound out => by
        have moved := told (hs := []) (t := s.setStream i r) (fun h => h.of_shapes (by simp))
          (fun h => h.of_one (fun j other => State.stream_setStream_ne _ _ other) (by rw [State.stream_setStream_same]; exact sound))
          (s.setStream_tells_same out)
        rwa [State.handOffs_idle _ [] nofun] at moved
      exact stale _ (fun h => h.becomeStale due.1) (by rw [due.1]; rfl)
    · exact refl s
  | lostExpiry i => cases e; exact ite (moved s i _ (fun _ => StreamRecord.leave_sound _ rfl) (raised := []) nofun)
  | jobStart => cases e; exact same s.recordCore_choose
  | leanCompletion => exact leanCompletion e
  | ceilingCompletion => exact ceilingCompletion e
  | sealStepCompletion => exact sealStepCompletion e
  | holdExpiry => cases e; exact expireHold s
  | startTimerExpiry =>
    cases e
    split
    · exact startExpiry ‹_›
    · exact refl s
  | transmitArbiterChoice p => cases e; exact same (s.recordCore_arbitrate p)
  | transmitSuccess p =>
    cases e
    split
    · exact transmitSuccess (attempting_on ‹_›)
    · exact refl s
  | transmitFailure p =>
    cases e
    split
    · exact transmitFailure (attempting_on ‹_›)
    · exact refl s
  | recoveryTimerExpiry p => cases e; exact ite (recoverPort s p)
  | repeatTimerExpiry l =>
    cases e
    exact ite (same (State.recordCore_withFaultSide (FaultSide.repeatExpiry_alerted _ _ _) (FaultSide.repeatExpiry_causes _ _ _)))
  | timeBaseAdvance => cases e; exact same rfl
  | _ =>
    rw [exec_carried rfl] at e
    cases e
    exact after (runCommand (s.countTaken _) _) rfl

end RecordsKept

/-- Every step keeps route table, streams and causes, or is the power-on reset. -/
theorem State.step_records {s t : State} (e : step s = .next t) : RecordsKept s t ∨ t.recordCore = State.reset.recordCore := by
  unfold step at e
  split at e
  · cases e
    rcases s.idle_cases with ⟨-, e⟩ | ⟨-, e⟩ <;> rw [e]
    · exact .inl (.expireHold s)
    · exact .inl (.same rfl)
  · rename_i c rest pending
    by_cases reset : c = .powerOnReset
    · subst reset
      cases e
      exact .inr rfl
    · exact .inl (.after (t := { s with pending := rest }) (.of_exec reset e) rfl)

/-! ## The reset state (R3, R22, R173) -/

/-- The ENABLED entries of the table after power-on reset are the nine of the ROM default route set (R3). -/
theorem State.reset_enabled_lt {i : Nat} (enabled : (State.reset.route i).state = .enabled) : i < 9 := by
  by_contra beyond
  have free : ∀ k, k < 39 → (State.reset.route (k + 9)).state ≠ .enabled := by decide
  by_cases inside : i < 48
  · exact free (i - 9) (by omega) (by rwa [Nat.sub_add_cancel (by omega)])
  · have length : State.reset.routes.length = 48 := by decide
    exact inside (length ▸ State.lt_length_of_route (by rw [enabled]; nofun))

theorem State.reset_routesSound : State.reset.RoutesSound where
  length := by decide
  apart := by
    intro i j apart enabledI enabledJ
    have nine : ∀ i, i < 9 → ∀ j, j < 9 → i ≠ j → ¬((State.reset.route i).fields.port = (State.reset.route j).fields.port ∧
      (State.reset.route i).fields.ident = (State.reset.route j).fields.ident) := by decide
    exact nine i (State.reset_enabled_lt enabledI) j (State.reset_enabled_lt enabledJ) apart
  classes := by
    intro i j apart enabledI enabledJ
    have nine : ∀ i, i < 9 → ∀ j, j < 9 → i ≠ j → (State.reset.route i).fields.cls ≠ .pass →
      (State.reset.route i).fields.cls ≠ (State.reset.route j).fields.cls := by decide
    exact nine i (State.reset_enabled_lt enabledI) j (State.reset_enabled_lt enabledJ) apart
  relations := by
    intro i enabled
    have nine : ∀ i, i < 9 → (State.reset.route i).fields.relationsFail = false := by decide
    exact nine i (State.reset_enabled_lt enabled)

theorem State.reset_streamsSound : State.reset.StreamsSound := fun i => by cases i <;> exact unseenRecord_sound

theorem State.reset_causesMatch : State.reset.CausesMatch := ⟨rfl, rfl, rfl, rfl, rfl, rfl, rfl⟩

end Sys2Proof.Machine

namespace Sys2Proof.Proofs
open Sys2Proof.Machine

/-- Settles O54: every command leaves the table's shapes, or writes an entry that is not ENABLED after it, or enables one that passes R5's
checks; the reset's table is sound. -/
theorem routesKept : Obligations.RoutesKept := by
  unfold Obligations.RoutesKept
  intro s t sound e
  rcases State.step_records e with kept | reset
  · exact kept.routes sound
  · exact (RecordsKept.same reset).routes State.reset_routesSound

/-- Settles O55: each stream record is replaced by a rejected, accepted, flooded, aged or UNSEEN one, all sound. -/
theorem streamsKept : Obligations.StreamsKept := by
  unfold Obligations.StreamsKept
  intro s t sound e
  rcases State.step_records e with kept | reset
  · exact kept.streams sound
  · exact (RecordsKept.same reset).streams State.reset_streamsSound

/-- Settles O58: whatever changes a condition tells the fault unit at the same event. -/
theorem causesKept : Obligations.CausesKept := by
  unfold Obligations.CausesKept
  intro s t sound e
  rcases State.step_records e with kept | reset
  · exact kept.causes sound
  · exact (RecordsKept.same reset).causes State.reset_causesMatch

end Sys2Proof.Proofs
end

section
/-! The time base and the power-on reset (R1, R3, R22, R29, R52, R81, R85, R100, R119, R134 to R139, R156, R173). -/

namespace Sys2Proof.Machine

/-! ## Time on the hold timer (R85) -/

/-- Time passes on a held request's timer up to its limit. -/
theorem Forwarder.elapse_held {f : Forwarder} {h : HeldRequest} {age : Nat} (held : f.slot = some h) (timer : f.holdTimer = some age)
    (steps : Nat) : f.elapse steps = { f with holdTimer := some (min (age + steps) h.holdLimit) } := by
  simp [Forwarder.elapse, held, timer]

/-- With no held request or no timer running, time passes on nothing. -/
theorem Forwarder.elapse_idle {f : Forwarder} (idle : f.slot = none ∨ f.holdTimer = none) (steps : Nat) : f.elapse steps = f := by
  unfold Forwarder.elapse
  split
  · rename_i held timer
    rcases idle with none | none
    · exact nomatch none.symm.trans held
    · exact nomatch none.symm.trans timer
  · rfl

/-- With no held request or no timer running, no hold expiry is due. -/
theorem Forwarder.holdDue_idle {f : Forwarder} (idle : f.slot = none ∨ f.holdTimer = none) : f.holdDue = false := by
  refine Bool.eq_false_of_not_eq_true fun due => ?_
  obtain ⟨h, age, held, timer, -⟩ := f.holdDue_iff.1 due
  rcases idle with none | none
  · exact nomatch none.symm.trans held
  · exact nomatch none.symm.trans timer

/-- The step of an empty queue (log 5). -/
theorem State.step_empty {s : State} (empty : s.pending = []) : step s = .next s.idle := by
  unfold step
  rw [empty]

theorem State.idle_due {s : State} (due : s.forwarder.holdDue) : s.idle = s.expireHold := if_pos due

theorem State.idle_waits {s : State} (waits : s.forwarder.holdDue = false) : s.idle = s.passTenth := if_neg (by simp [waits])

/-- A count of 16 bits advanced by one (R1). -/
theorem Stamp.toNat_succ (x : Stamp) : (x + 1).toNat = if x.toNat = 65535 then 0 else x.toNat + 1 := by
  rw [BitVec.toNat_add]
  have bound := x.isLt
  split <;> simp <;> omega

end Sys2Proof.Machine

namespace Sys2Proof.Proofs
open Sys2Proof.Machine

/-- Settles O2: the two ways time passes, each by whether the hold timer runs and has reached its limit. -/
theorem timePasses : Obligations.TimePasses := by
  unfold Obligations.TimePasses
  intro s
  refine ⟨⟨_, rfl, ?_, Stamp.toNat_succ _, fun h age held timer => ?_, fun idle => Forwarder.elapse_idle idle _⟩,
    fun empty => ⟨fun h age held timer => ⟨fun early => ?_, fun due => ?_⟩, fun idle => ?_⟩⟩
  · simp only [tenthsPerCount, ← (s.forwarder.elapse_frame _).1]
  · exact congrArg (·.holdTimer) (Forwarder.elapse_held held timer _)
  · have waits : s.forwarder.holdDue = false := by
      refine Bool.eq_false_of_not_eq_true fun due => ?_
      obtain ⟨h', age', held', timer', passed⟩ := s.forwarder.holdDue_iff.1 due
      obtain rfl := Option.some.inj (held.symm.trans held')
      obtain rfl := Option.some.inj (timer.symm.trans timer')
      omega
    rw [State.step_empty empty, State.idle_waits waits, State.passTenth, Forwarder.elapse_held held timer, Nat.min_eq_left early]
    rfl
  · rw [State.step_empty empty, State.idle_due (s.forwarder.holdDue_iff.2 ⟨h, age, held, timer, due⟩)]
    rfl
  · rw [State.step_empty empty, State.idle_waits (Forwarder.holdDue_idle idle), State.passTenth, Forwarder.elapse_idle idle]
    rfl

/-- Settles O3: the reset state, predicate by predicate. -/
theorem resetIsSound : Obligations.ResetIsSound := by
  unfold Obligations.ResetIsSound
  exact ⟨State.reset_portsSound, State.reset_routesSound, State.reset_streamsSound, ⟨by decide, by decide⟩, State.reset_engineSound,
    State.reset_cutSound, State.reset_pagesSound, State.reset_causesMatch, State.reset_faultsSound⟩

/-- Settles O4: every field of the reset state is the value its chapter lists. -/
theorem powerOnResetValues : Obligations.PowerOnResetValues := by
  unfold Obligations.PowerOnResetValues
  intro s
  refine ⟨_, rfl, rfl, rfl, rfl, rfl, rfl, rfl, rfl, rfl, fun i => ?stream, rfl, rfl, rfl, rfl, rfl, rfl, rfl, rfl, rfl, rfl, rfl, rfl,
    rfl, rfl, rfl, rfl, rfl, rfl, fun p => ?port, rfl, fun c => ?record, rfl, rfl, rfl, rfl, rfl, rfl⟩
  case stream => cases i <;> rfl
  case port => cases p <;> rfl
  case record => cases c <;> exact ⟨rfl, rfl, rfl⟩

end Sys2Proof.Proofs
end

section
/-! Frames that go no further, the identifiers a port matches, and frames sent on unread (R2, R8, R10, R13, R25, R140, R141). -/

namespace Sys2Proof.Machine

/-! ## Foreign frames, duplicates, and frames over budget -/

/-- An identifier as an occurrence's value (R157). -/
theorem ident_setWidth (id : Ident) : id.setWidth 16 = BitVec.ofNat 16 id.toNat := BitVec.eq_of_toNat_eq (by simp)

/-- A frame that an entry has no budget for is counted over budget and marks the window (R10). -/
theorem exec_overBudget {s : State} {p : PortId} {f : Frame} {i : Nat} (matched : s.Matched p f i) (spent : ¬s.HasBudget i) :
    exec (.receivedFrame p f) s = .next ((s.delivered p).modifyRoute i RouteEntry.dropFrame) := by
  have refused : ¬(s.route i).admits := by simpa [RouteEntry.admits, State.HasBudget] using spent
  refine (execReceivedFrame_matched matched).trans ?_
  simp only [State.matchedFrame, State.route_setPort, if_neg refused]
  rfl

/-- The checks read the admitted frame's stream and chassis settings as they stood before it. -/
theorem exec_duplicate {s : State} {p : PortId} {f : Frame} {i : Nat} {k : StreamId} (matched : s.Matched p f i) (budget : s.HasBudget i)
    (consuming : streamOf (s.route i).fields.cls = some k)
    (judged : judge s.store.chassis k (s.stream k) (s.route i).fields f = .duplicate) :
    exec (.receivedFrame p f) s = .next ((s.admitted p i).countRoute i RouteCounts.duplicate) := by
  refine (execReceivedFrame_consuming matched budget consuming).trans ?_
  simp [State.supervise, judged]

/-! ## Finding an entry (R2) -/

/-- The search of the table finds the one entry that passes a test. -/
theorem State.findIdx?_route_iff {s : State} {test : RouteEntry → Bool} (free : test freeEntry = false)
    (unique : ∀ i j, test (s.route i) → test (s.route j) → i = j) {i : Nat} :
    s.routes.findIdx? test = some i ↔ test (s.route i) := by
  have inside : ∀ {j}, test (s.route j) → j < s.routes.length := fun {j} passes => by
    by_contra outside
    rw [State.route, List.getD_eq_getElem?_getD, List.getElem?_eq_none (Nat.le_of_not_lt outside)] at passes
    exact nomatch free.symm.trans passes
  have read : ∀ {j} (h : j < s.routes.length), s.routes[j] = s.route j := fun h => by
    simp [State.route, List.getD_eq_getElem?_getD, List.getElem?_eq_getElem h]
  rw [List.findIdx?_eq_some_iff_getElem]
  constructor
  · rintro ⟨h, passes, -⟩
    rwa [read h] at passes
  · intro passes
    refine ⟨inside passes, by rwa [read], fun j earlier other => ?_⟩
    rw [read (earlier.trans (inside passes))] at other
    exact absurd (unique j i other passes) (Nat.ne_of_lt earlier)

/-- Lookup finds the entry that is ENABLED with the port and identifier (R2, R5). -/
theorem State.RoutesSound.lookup_iff {s : State} (h : s.RoutesSound) {p : PortId} {id : Ident} {i : Nat} :
    s.lookup p id = some i ↔ (s.route i).state = .enabled ∧ (s.route i).fields.port = p ∧ (s.route i).fields.ident = id := by
  refine (State.findIdx?_route_iff (by simp [freeEntry]) fun i j => ?_).trans (by simp)
  simp only [decide_eq_true_eq]
  rintro ⟨enabledI, portI, identI⟩ ⟨enabledJ, portJ, identJ⟩
  by_contra apart
  exact h.apart i j apart enabledI enabledJ ⟨portI.trans portJ.symm, identI.trans identJ.symm⟩

/-- The ENABLED entry of a class other than PASS (R5). -/
theorem State.RoutesSound.enabledOf_iff {s : State} (h : s.RoutesSound) {c : RouteClass} (consuming : c ≠ .pass) {i : Nat} :
    s.enabledOf c = some i ↔ (s.route i).state = .enabled ∧ (s.route i).fields.cls = c := by
  refine (State.findIdx?_route_iff (by simp [freeEntry]) fun i j => ?_).trans (by simp)
  simp only [decide_eq_true_eq]
  rintro ⟨enabledI, clsI⟩ ⟨enabledJ, clsJ⟩
  by_contra apart
  exact h.classes i j apart enabledI enabledJ (clsI ▸ consuming) (clsI.trans clsJ.symm)

/-- The identifiers that a port holds back on Port B beside the lean report's (R141). -/
theorem State.mem_outboundIds {s : State} {id : Ident} : id ∈ s.outboundIds ↔
    (∃ i, s.enabledOf .torqueRequest = some i ∧ id = (s.route i).fields.rewrite.getD (s.route i).fields.ident) ∨
      ∃ h, s.forwarder.slot = some h ∧ id = h.outbound := by
  unfold State.outboundIds
  cases s.enabledOf .torqueRequest <;> cases s.forwarder.slot <;> simp

/-! ## Frames sent on unread -/

/-- A delivered frame that matches no entry is the unknown-identifier action's (R8). -/
theorem exec_unknown {s : State} {p : PortId} {f : Frame} (on : (s.port p).mode ≠ .off) (notForeign : f.ident ∉ s.ownSet p)
    (unmatched : s.lookup p f.ident = none) : exec (.receivedFrame p f) s = .next ((s.delivered p).unknownFrame p f) := by
  have found : (s.setPort p (s.port p).countDelivered).lookup p f.ident = none := by cases p <;> exact unmatched
  show execReceivedFrame p f s = _
  simp only [execReceivedFrame, if_neg on, if_neg notForeign, State.deliver, found]
  rfl

/-- The forwarded copy of a PASS frame has its data unchanged (R25). -/
theorem forwardedCopy_pass {e : RouteFields} (pass : e.cls = .pass) (f : Frame) :
    forwardedCopy e f = ⟨e.rewrite.getD f.ident, f.data⟩ := by
  unfold forwardedCopy
  cases e.rewrite <;> simp [pass, streamOf]

end Sys2Proof.Machine

namespace Sys2Proof.Proofs
open Sys2Proof.Machine

/-- Settles O5: the four places of the classifier at which a frame ends. -/
theorem framesDropped : Obligations.FramesDropped := by
  unfold Obligations.FramesDropped
  refine ⟨fun s p f => ⟨fun off => ?_, fun on foreign => ?_⟩, fun s p f i matched => ⟨exec_overBudget matched, ?_⟩⟩
  · show execReceivedFrame p f s = _
    rw [execReceivedFrame, if_pos off]
    rfl
  · show execReceivedFrame p f s = _
    rw [execReceivedFrame, if_neg on, if_pos foreign, ← ident_setWidth]
    rfl
  · exact fun k budget consuming judged => exec_duplicate matched budget consuming judged

/-- Settles O6: membership of the own sets as they are read, and the search of the table under R5's uniqueness. -/
theorem identifiersMatched : Obligations.IdentifiersMatched := by
  unfold Obligations.IdentifiersMatched
  intro s id sound
  refine ⟨Iff.rfl, ?_, fun p i => sound.lookup_iff⟩
  rw [State.ownSet, List.mem_cons, State.mem_outboundIds]
  refine or_congr_right (or_congr_left (exists_congr fun i => ?_))
  rw [sound.enabledOf_iff (c := .torqueRequest) nofun, and_assoc]
  cases (s.route i).fields.rewrite <;> rfl

/-- Settles O7: the unknown-identifier action, and the forward field of a PASS entry. -/
theorem framesForwarded : Obligations.FramesForwarded := by
  unfold Obligations.FramesForwarded
  refine ⟨fun s p f on notForeign unmatched => ⟨_, exec_unknown on notForeign unmatched, ?_⟩,
    fun s p f i matched budget pass => ⟨_, execReceivedFrame_admitted matched budget, ?_⟩⟩
  · have action : (s.delivered p).store.chassis.unknownAction p = s.store.chassis.unknownAction p := by cases p <;> rfl
    unfold State.unknownFrame
    rw [action]
    cases s.store.chassis.unknownAction p <;> cases p <;> exact ⟨rfl, rfl, ⟨rfl, rfl⟩, rfl⟩
  · have treated : (s.admitted p i).treat i p (s.route i).fields f = (s.admitted p i).forwardFrame i p (s.route i).fields f := by
      unfold State.treat
      rw [pass]
    rw [treated, State.forwardFrame, forwardedCopy_pass pass]
    cases (s.route i).fields.forward <;> rfl

end Sys2Proof.Proofs
end

section
/-! The checks of a consuming frame (R11 to R15) and what acceptance does to a record (R17, R20, R21). -/

namespace Sys2Proof.Machine

/-! ## The check byte (R12) -/

/-- A sum of bytes is the plain sum modulo 256. -/
theorem toNat_byteSum (xs : List Byte) (first : Byte) :
    (xs.foldl (· + ·) first).toNat = ((xs.map BitVec.toNat).sum + first.toNat) % 256 := by
  induction xs generalizing first with
  | nil => simp [Nat.mod_eq_of_lt first.isLt]
  | cons x xs ih =>
    rw [List.foldl_cons, ih, List.map_cons, List.sum_cons, BitVec.toNat_add]
    omega

/-- The first seven bytes of a frame of 8 or more, by index. -/
theorem take_seven {data : List Byte} (long : 8 ≤ data.length) : data.take 7 = (List.range 7).map (dataByte data) := by
  refine List.ext_getElem (by simp; omega) fun i inside _ => ?_
  have there : i < data.length := by simp at inside; omega
  simp [dataByte, List.getD_eq_getElem?_getD, List.getElem?_eq_getElem there]

/-- The check byte in plain arithmetic: 255 less the sum modulo 256 (R12). -/
theorem toNat_checkByte (id : Ident) {data : List Byte} (long : 8 ≤ data.length) :
    (checkByte id data).toNat = 255 - (((List.range 7).map (fun n => (dataByte data n).toNat)).sum + id.toNat % 256) % 256 := by
  have low : (id.setWidth 8).toNat = id.toNat % 256 := by simp
  have sum := toNat_byteSum (data.take 7) (id.setWidth 8)
  rw [take_seven long, List.map_map, low] at sum
  rw [checkByte, BitVec.toNat_sub, take_seven long, sum]
  simp only [Function.comp_def]
  generalize ((List.range 7).map fun n => (dataByte data n).toNat).sum + id.toNat % 256 = total
  have : total % 256 < 256 := Nat.mod_lt _ (by decide)
  simp
  omega

/-- The alive counter is the low nibble of byte 6 (R13). -/
theorem toNat_aliveOf (data : List Byte) : (aliveOf data).toNat = (dataByte data 6).toNat % 16 := by
  simp [aliveOf_eq]

/-! ## Bound and step checks (R14) -/

/-- A signal is outside its window, or steps from its reference by more than the window allows (R14). -/
def SignalFails (x : Int) (w : Window) (reference : Option Int) : Prop :=
  x < w.lower ∨ w.upper < x ∨ ∃ m z, w.maxStep = some m ∧ reference = some z ∧ (m : Int) < |x - z|

theorem firstFailing_fails {x : Int} {w : Window} {reference : Option Int} (fails : SignalFails x w reference)
    (rest : List (Int × Window × Option Int)) : firstFailing ((x, w, reference) :: rest) = some x := by
  unfold firstFailing
  simp only
  by_cases outside : x < w.lower ∨ w.upper < x
  · rw [if_pos outside]
  · rw [if_neg outside]
    refine if_pos ?_
    obtain ⟨m, z, limit, held, step⟩ := (fails.resolve_left fun low => outside (.inl low)).resolve_left fun high => outside (.inr high)
    rw [Int.abs_eq_natAbs, Int.ofNat_lt] at step
    simp [limit, held, step]

theorem firstFailing_passes {x : Int} {w : Window} {reference : Option Int} (passes : ¬SignalFails x w reference)
    (rest : List (Int × Window × Option Int)) : firstFailing ((x, w, reference) :: rest) = firstFailing rest := by
  simp only [SignalFails, not_or, not_exists, not_and] at passes
  obtain ⟨low, high, steps⟩ := passes
  conv_lhs => unfold firstFailing
  simp only
  rw [if_neg (not_or.2 ⟨low, high⟩)]
  refine if_neg fun step => ?_
  cases limit : w.maxStep with
  | none => simp [limit] at step
  | some m =>
    cases held : reference with
    | none => simp [held] at step
    | some z =>
      refine steps m z limit held ?_
      rw [Int.abs_eq_natAbs, Int.ofNat_lt]
      simpa [limit, held] using step

/-- A field of a rider selection fails above its upper limit alone (R14). -/
theorem signalFails_fixed (upper x : Nat) : SignalFails x (fixedWindow upper) none ↔ upper < x := by
  simp [SignalFails, fixedWindow]

/-- A frame whose first failing signal is `x` is rejected with it (R14). -/
theorem judgeSignals_rejects {c : Chassis} {k : StreamId} {r : StreamRecord} {data : List Byte} {sequenceError : Bool} {x : Int}
    (fails : firstFailing (checkedSignals c k (valuesOf k data) r.stepReference) = some x) :
    judgeSignals c k r data sequenceError = .rejected .signalImplausible (BitVec.ofInt 16 x) := by
  simp [judgeSignals, fails]

/-- A frame of which no signal fails is accepted, a torque request clamped (R14, R15). -/
theorem judgeSignals_accepts {c : Chassis} {k : StreamId} {r : StreamRecord} {data : List Byte} {sequenceError : Bool}
    (passes : firstFailing (checkedSignals c k (valuesOf k data) r.stepReference) = none) :
    judgeSignals c k r data sequenceError = .accepted (clampTorque c (valuesOf k data)) sequenceError := by
  simp [judgeSignals, passes]

/-- Two bytes as an unsigned number (R186). -/
theorem toNat_halfOf (high low : Byte) : (halfOf high low).toNat = high.toNat * 256 + low.toNat := by
  simp only [halfOf, BitVec.toNat_append]
  rw [← Nat.shiftLeft_add_eq_or_of_lt low.isLt, Nat.shiftLeft_eq]

/-- A signed field in plain arithmetic (R186). -/
theorem signedAt_eq (data : List Byte) (i : Nat) :
    let high := (dataByte data i).toNat * 256 + (dataByte data (i + 1)).toNat
    signedAt data i = if high < 32768 then (high : Int) else (high : Int) - 65536 := by
  simp only [signedAt, BitVec.toInt_eq_toNat_cond, toNat_halfOf]
  split <;> split <;> omega

/-- A signed field as a rejected frame's value (R14, R157). -/
theorem ofInt_signedAt (data : List Byte) (i : Nat) :
    BitVec.ofInt 16 (signedAt data i) = BitVec.ofNat 16 ((dataByte data i).toNat * 256 + (dataByte data (i + 1)).toNat) := by
  rw [signedAt, BitVec.ofInt_toInt, ← toNat_halfOf, BitVec.ofNat_toNat, BitVec.setWidth_eq]

/-- An unsigned field in plain arithmetic (R186). -/
theorem unsignedAt_eq (data : List Byte) (i : Nat) : unsignedAt data i = (dataByte data i).toNat * 256 + (dataByte data (i + 1)).toNat :=
  toNat_halfOf _ _

/-- The step reference of a speed. -/
def StreamRecord.speedReference (r : StreamRecord) : Option Int :=
  match r.stepReference with
  | some (.speed y) => some (y : Int)
  | _ => none

/-- The step references of roll, yaw and lateral. -/
def StreamRecord.inertialReference (r : StreamRecord) : Option (Int × Int × Int) :=
  match r.stepReference with
  | some (.inertial roll yaw lateral) => some (roll, yaw, lateral)
  | _ => none

/-- The check of a wheel frame: its one signal in the window of its wheel (R14). -/
theorem judgeSignals_wheel {k : StreamId} {n : Nat} (wheel : k = .wheelFront ∧ n = 3 ∨ k = .wheelRear ∧ n = 4) (c : Chassis)
    (r : StreamRecord) (data : List Byte) (sequenceError : Bool) :
    (SignalFails (unsignedAt data 0) (c.window n) r.speedReference →
      judgeSignals c k r data sequenceError = .rejected .signalImplausible (BitVec.ofNat 16 (unsignedAt data 0))) ∧
    (¬SignalFails (unsignedAt data 0) (c.window n) r.speedReference →
      judgeSignals c k r data sequenceError = .accepted (.speed (unsignedAt data 0)) sequenceError) := by
  have signals : checkedSignals c k (valuesOf k data) r.stepReference = [((unsignedAt data 0 : Int), c.window n, r.speedReference)] := by
    rcases wheel with ⟨rfl, rfl⟩ | ⟨rfl, rfl⟩ <;> rfl
  have value : clampTorque c (valuesOf k data) = .speed (unsignedAt data 0) := by rcases wheel with ⟨rfl, -⟩ | ⟨rfl, -⟩ <;> rfl
  refine ⟨fun fails => ?_, fun passes => ?_⟩
  · exact judgeSignals_rejects (by rw [signals]; exact firstFailing_fails fails _)
  · rw [judgeSignals_accepts (by rw [signals]; exact firstFailing_passes passes _), value]

/-- The clamp of a torque request (R15). -/
theorem clampTorque_eq (c : Chassis) (t : Nat) (flag : Bool) : clampTorque c (.torque t flag) =
    if (t : Int) < (c.window 5).lower then .torque (c.window 5).lower.toNat (decide ((c.window 5).lower.toNat ≠ t))
    else if (c.window 5).upper < (t : Int) then .torque (c.window 5).upper.toNat (decide ((c.window 5).upper.toNat ≠ t))
    else .torque t false := by
  simp only [clampTorque, clampInt]
  split
  · rfl
  · split
    · rfl
    · simp

end Sys2Proof.Machine

namespace Sys2Proof.Proofs
open Sys2Proof.Machine

/-- Settles O8: the four outcomes in the order of the checks. -/
theorem checksInOrder : Obligations.ChecksInOrder := by
  unfold Obligations.ChecksInOrder
  intro c k r e f sum signals
  have same : 8 ≤ f.data.length → (dataByte f.data 7 = checkByte f.ident f.data ↔ (dataByte f.data 7).toNat = 255 - sum % 256) :=
    fun long => by rw [BitVec.toNat_eq, toNat_checkByte _ long]
  refine ⟨fun short => ?_, fun long plain => ?_, fun long guarded wrong => ?_, fun long guarded right => ?_⟩
  · rw [judge, if_pos short]
  · rw [judge, if_neg (Nat.not_lt.2 long), if_pos plain]
  · rw [judge, if_neg (Nat.not_lt.2 long), if_neg (by simp [guarded]), if_pos (fun equal => wrong ((same long).1 equal))]
    simp
  · rw [judge, if_neg (Nat.not_lt.2 long), if_neg (by simp [guarded]), if_neg (not_not.2 ((same long).2 right))]
    cases r.lastAlive with
    | none => rfl
    | some last =>
      have again : aliveOf f.data = last ↔ (dataByte f.data 6).toNat % 16 = last.toNat := by
        rw [BitVec.toNat_eq, toNat_aliveOf]
      have next : aliveOf f.data = last + 1 ↔ (dataByte f.data 6).toNat % 16 = (last.toNat + 1) % 16 := by
        rw [BitVec.toNat_eq, toNat_aliveOf, BitVec.toNat_add]
        rfl
      simp only [again, ne_eq, next]
      rfl

/-- Settles O9: stream by stream, the first failing signal rejects a frame, and a torque request has none. -/
theorem signalChecks : Obligations.SignalChecks := by
  unfold Obligations.SignalChecks
  intro c k r data sequenceError high fails
  cases k with
  | torqueRequest =>
    have passes : firstFailing (checkedSignals c .torqueRequest (valuesOf .torqueRequest data) r.stepReference) = none := rfl
    simp only
    rw [judgeSignals_accepts passes, valuesOf, clampTorque_eq, unsignedAt_eq]
    split
    · rfl
    · split <;> rfl
  | riderSelect =>
    simp only
    have selection : valuesOf .riderSelect data =
        .selection (dataByte data 0).toNat (dataByte data 1).toNat (decide ((dataByte data 2).toNat ≠ 0)) := by
      simp [valuesOf, BitVec.toNat_eq]
    split
    · rename_i mode
      rw [judgeSignals_rejects (by rw [selection]; exact firstFailing_fails ((signalFails_fixed 3 _).2 mode) _)]
      rfl
    rename_i mode
    split
    · rename_i load
      rw [judgeSignals_rejects (by
        rw [selection]
        exact (firstFailing_passes (mt (signalFails_fixed 3 _).1 mode) _).trans (firstFailing_fails ((signalFails_fixed 2 _).2 load) _))]
      rfl
    · rename_i load
      rw [judgeSignals_accepts (by
        rw [selection]
        exact (firstFailing_passes (mt (signalFails_fixed 3 _).1 mode) _).trans
          (firstFailing_passes (mt (signalFails_fixed 2 _).1 load) _)), selection]
      rfl
  | inertial =>
    dsimp -zeta only
    intro signed held
    have reference : ∀ g, held g = r.inertialReference.map g := by
      intro g
      simp only [held, StreamRecord.inertialReference]
      cases r.stepReference with
      | none => rfl
      | some v => cases v <;> rfl
    have signals : checkedSignals c .inertial (valuesOf .inertial data) r.stepReference =
        [(signed 0, c.window 0, held (·.1)), (signed 2, c.window 1, held (·.2.1)), (signed 4, c.window 2, held (·.2.2))] := by
      simp only [checkedSignals, valuesOf, signedAt_eq, reference]
      rfl
    have value : ∀ n, BitVec.ofInt 16 (signed n) = BitVec.ofNat 16 (high n) := fun n => by
      rw [← ofInt_signedAt, signedAt_eq]
    refine ⟨fun roll => ?_, fun roll yaw => ?_, fun roll yaw lateral => ?_, fun roll yaw lateral => ?_⟩
    · rw [← value]
      exact judgeSignals_rejects (by rw [signals]; exact firstFailing_fails roll _)
    · rw [← value]
      exact judgeSignals_rejects (by rw [signals]; exact (firstFailing_passes roll _).trans (firstFailing_fails yaw _))
    · rw [← value]
      exact judgeSignals_rejects (by
        rw [signals]
        exact ((firstFailing_passes roll _).trans (firstFailing_passes yaw _)).trans (firstFailing_fails lateral _))
    · rw [judgeSignals_accepts (by
        rw [signals]
        exact ((firstFailing_passes roll _).trans (firstFailing_passes yaw _)).trans (firstFailing_passes lateral _))]
      simp only [valuesOf, signedAt_eq]
      rfl
  | wheelFront =>
    have wheel := judgeSignals_wheel (.inl ⟨rfl, rfl⟩) c r data sequenceError
    rw [unsignedAt_eq] at wheel
    exact wheel
  | wheelRear =>
    have wheel := judgeSignals_wheel (.inr ⟨rfl, rfl⟩) c r data sequenceError
    rw [unsignedAt_eq] at wheel
    exact wheel

/-- Settles O11: a record's acceptance by its state, the third set mark and the eighth recovery frame. -/
theorem acceptanceRecord : Obligations.AcceptanceRecord := by
  unfold Obligations.AcceptanceRecord
  intro r e v alive now sequenceError stored history fresh
  have trusted : r.state = .fresh ∨ r.state = .stale → r.state.trusted := by rintro (state | state) <;> rw [state] <;> rfl
  have out : r.state = .lost ∨ r.state = .faulty → r.state.out := by rintro (state | state) <;> rw [state] <;> rfl
  have mark : addMark r.history sequenceError = history := by simp [addMark, history]
  refine ⟨fun unseen => ?_, fun state few => ?_, fun state many => ?_, fun state error => ?_, fun state right early => ?_,
    fun state right eighth => ?_⟩
  · rw [StreamRecord.accept_unseen _ _ _ _ _ unseen]
    rfl
  · rw [StreamRecord.accept_trusted _ _ _ _ _ (trusted state)]
    simp only [StreamRecord.acceptTrusted, StreamRecord.store, mark, if_neg (Nat.not_le.2 few)]
    rfl
  · rw [StreamRecord.accept_trusted _ _ _ _ _ (trusted state)]
    simp only [StreamRecord.acceptTrusted, StreamRecord.store, mark, if_pos many]
    rfl
  · rw [StreamRecord.accept_out _ _ _ _ _ (out state), StreamRecord.acceptRecovering, if_pos error]
    rfl
  · rw [StreamRecord.accept_out _ _ _ _ _ (out state), StreamRecord.acceptRecovering, if_neg (by simp [right]),
      if_neg (show ¬8 ≤ (r.store e v alive now).recovery + 1 from Nat.not_le.2 early)]
    rfl
  · rw [StreamRecord.accept_out _ _ _ _ _ (out state), StreamRecord.acceptRecovering, if_neg (by simp [right]),
      if_pos (show 8 ≤ (r.store e v alive now).recovery + 1 from eighth)]
    rfl

end Sys2Proof.Proofs
end

section
/-! Standstill and the commands refused without it (R26, R177), and the commands of the route table (R4 to R6). -/

namespace Sys2Proof.Machine

/-! ## Standstill (R26) -/

theorem StreamRecord.slow_iff (r : StreamRecord) :
    r.slow ↔ (r.state = .fresh ∨ r.state = .stale) ∧ ∃ v, r.latest = some (.speed v) ∧ v ≤ 30 := by
  simp only [StreamRecord.slow, Bool.and_eq_true, StreamState.trusted_iff]
  refine and_congr_right fun _ => ?_
  unfold StreamRecord.speed
  cases r.latest with
  | none => simp
  | some v => cases v <;> simp

theorem StreamRecord.quiet_iff (r : StreamRecord) :
    r.quiet ↔ r.state ≠ .fresh ∨ ∃ t c, r.latest = some (.torque t c) ∧ t ≤ 20 := by
  simp only [StreamRecord.quiet, Bool.or_eq_true, decide_eq_true_eq]
  refine or_congr_right ?_
  unfold StreamRecord.request
  cases r.latest with
  | none => simp
  | some v => cases v <;> simp

/-- A machine at rest with its sensors reporting, or with neither wheel seen (R26). -/
theorem State.standstill_iff (s : State) : s.standstill ↔ (s.wheelFront.slow ∧ s.wheelRear.slow ∧ s.torqueRequest.quiet) ∨
    (s.wheelFront.state = .unseen ∧ s.wheelRear.state = .unseen) := by
  simp [State.standstill, and_assoc]

/-- A gated command without standstill is counted and answered MOVING (R177). -/
theorem State.gated_moving {s : State} (moving : s.standstill = false) (code tag : Byte) (run : State → State) :
    (s.countTaken .service).gated code tag run = (s.takenFrom .service).refuseMoving code tag := by
  rw [s.countTaken_eq]
  exact if_neg (by rw [show (s.takenFrom .service).standstill = false from moving]; decide)

/-! ## The fields of a route entry by number (R4, R189) -/

/-- The values that a field takes, by number (R4). -/
def RouteFieldTakes (field v : Nat) : Prop :=
  match field with
  | 0 => v ≤ 1
  | 1 => v ≤ 0x7FF
  | 2 => v ≤ 7
  | 3 => v ≤ 2
  | 4 => v ≤ 0x7FF ∨ v = 0xFFFF
  | 5 => v ≤ 255
  | 6 => v ≤ 1
  | 7 => 5 ≤ v ∧ v ≤ 1000
  | 8 => 20 ≤ v ∧ v ≤ 2000
  | 9 => 5 ≤ v ∧ v ≤ 40
  | _ => 2 ≤ v ∧ v ≤ 50

theorem portOf_cases (v : Nat) : (v ≤ 1 ∧ ∃ x, portOf v = some x ∧ portCode x = v) ∨ (¬v ≤ 1 ∧ portOf v = none) := by
  unfold portOf
  split
  · exact .inl ⟨by decide, _, rfl, rfl⟩
  · exact .inl ⟨by decide, _, rfl, rfl⟩
  · exact .inr ⟨by simp only [imp_false] at *; omega, rfl⟩

theorem flagOf_cases (v : Nat) : (v ≤ 1 ∧ ∃ x, flagOf v = some x ∧ flagCode x = v) ∨ (¬v ≤ 1 ∧ flagOf v = none) := by
  unfold flagOf
  split
  · exact .inl ⟨by decide, _, rfl, rfl⟩
  · exact .inl ⟨by decide, _, rfl, rfl⟩
  · exact .inr ⟨by simp only [imp_false] at *; omega, rfl⟩

theorem forwardOf_cases (v : Nat) : (v ≤ 2 ∧ ∃ x, forwardOf v = some x ∧ x.code = v) ∨ (¬v ≤ 2 ∧ forwardOf v = none) := by
  unfold forwardOf
  split
  case h_4 => exact .inr ⟨by simp only [imp_false] at *; omega, rfl⟩
  all_goals exact .inl ⟨by decide, _, rfl, rfl⟩

theorem routeClassOf_cases (v : Nat) : (v ≤ 7 ∧ ∃ x, routeClassOf v = some x ∧ x.code = v) ∨ (¬v ≤ 7 ∧ routeClassOf v = none) := by
  unfold routeClassOf
  split
  case h_9 => exact .inr ⟨by simp only [imp_false] at *; omega, rfl⟩
  all_goals exact .inl ⟨by decide, _, rfl, rfl⟩

/-- An identifier of 11 bits reads back. -/
theorem toNat_ofIdent {v : Nat} (inRange : v ≤ 0x7FF) : (BitVec.ofNat 11 v : Ident).toNat = v := by
  rw [BitVec.toNat_ofNat]
  omega

/-- The field of a rewrite identifier as it reads (R189). -/
def rewriteCode : Option Ident → Nat
  | some x => x.toNat
  | none => 0xFFFF

theorem rewriteOf_cases (v : Nat) : ((v ≤ 0x7FF ∨ v = 0xFFFF) ∧ ∃ x, rewriteOf v = some x ∧ rewriteCode x = v) ∨
    (¬(v ≤ 0x7FF ∨ v = 0xFFFF) ∧ rewriteOf v = none) := by
  unfold rewriteOf
  split
  · rename_i absent
    exact .inl ⟨.inr absent, none, rfl, absent.symm⟩
  · split
    · rename_i inRange
      exact .inl ⟨.inl inRange, _, rfl, toNat_ofIdent inRange⟩
    · exact .inr ⟨by omega, rfl⟩

/-- A write that a field takes reads back, and leaves what the other numbers read. -/
def RouteFields.Written (f : RouteFields) (field v : Nat) (g : RouteFields) : Prop :=
  g.read field = some v ∧ ∀ k, k ≠ field → g.read k = f.read k

/-- A field written from a code: the write is taken exactly with a value. -/
theorem write_of_code {α : Type} {f : RouteFields} {field v : Nat} {takes : Prop} {code : Option α} {set : α → RouteFields} {read : α → Nat}
    (cases : (takes ∧ ∃ x, code = some x ∧ read x = v) ∨ (¬takes ∧ code = none)) (written : ∀ x, f.Written field (read x) (set x)) :
    (takes ∧ ∃ g, code.map set = some g ∧ f.Written field v g) ∨ (¬takes ∧ code.map set = none) := by
  rcases cases with ⟨takes, x, rfl, rfl⟩ | ⟨refused, rfl⟩
  · exact .inl ⟨takes, set x, rfl, written x⟩
  · exact .inr ⟨refused, rfl⟩

/-- A field written in a range. -/
theorem write_of_range {f g : RouteFields} {field v : Nat} {takes : Prop} [Decidable takes] (written : takes → f.Written field v g) :
    (takes ∧ ∃ h, (if takes then some g else none) = some h ∧ f.Written field v h) ∨ (¬takes ∧ (if takes then some g else none) = none) := by
  by_cases inRange : takes
  · exact .inl ⟨inRange, g, if_pos inRange, written inRange⟩
  · exact .inr ⟨inRange, if_neg inRange⟩

/-- A number beyond 10 reads no field. -/
theorem RouteFields.read_unknown (f : RouteFields) {k : Nat} (beyond : 10 < k) : f.read k = none := by
  unfold RouteFields.read
  split
  case h_12 => rfl
  all_goals omega

/-- Two sets of fields that read alike at the known numbers but one read alike at all but it. -/
theorem RouteFields.read_alike {f g : RouteFields} {field : Nat} (alike : ∀ k, k ≤ 10 → k ≠ field → g.read k = f.read k) (k : Nat)
    (other : k ≠ field) : g.read k = f.read k := by
  rcases Nat.lt_or_ge 10 k with beyond | inside
  · rw [RouteFields.read_unknown _ beyond, RouteFields.read_unknown _ beyond]
  · exact alike k inside other

/-- A write to a known field is taken with a value that the field takes, and refused with any other (R4). -/
theorem RouteFields.write_cases (f : RouteFields) {field : Nat} (known : field ≤ 10) (v : Nat) :
    (RouteFieldTakes field v ∧ ∃ g, f.write field v = some g ∧ f.Written field v g) ∨
      (¬RouteFieldTakes field v ∧ f.write field v = none) := by
  interval_cases field
  on_goal 1 => refine write_of_code (portOf_cases v) fun x => ⟨rfl, RouteFields.read_alike fun k inside other => ?_⟩
  on_goal 2 => refine write_of_range (takes := v ≤ 0x7FF) fun inRange =>
    ⟨congrArg some (toNat_ofIdent inRange), RouteFields.read_alike fun k inside other => ?_⟩
  on_goal 3 => refine write_of_code (routeClassOf_cases v) fun x => ⟨rfl, RouteFields.read_alike fun k inside other => ?_⟩
  on_goal 4 => refine write_of_code (forwardOf_cases v) fun x => ⟨rfl, RouteFields.read_alike fun k inside other => ?_⟩
  on_goal 5 => refine write_of_code (rewriteOf_cases v) fun x => ⟨by cases x <;> rfl, RouteFields.read_alike fun k inside other => ?_⟩
  on_goal 6 => refine write_of_range (takes := v ≤ 255) fun _ => ⟨rfl, RouteFields.read_alike fun k inside other => ?_⟩
  on_goal 7 => refine write_of_code (flagOf_cases v) fun x => ⟨rfl, RouteFields.read_alike fun k inside other => ?_⟩
  on_goal 8 => refine write_of_range (takes := 5 ≤ v ∧ v ≤ 1000) fun _ => ⟨rfl, RouteFields.read_alike fun k inside other => ?_⟩
  on_goal 9 => refine write_of_range (takes := 20 ≤ v ∧ v ≤ 2000) fun _ => ⟨rfl, RouteFields.read_alike fun k inside other => ?_⟩
  on_goal 10 => refine write_of_range (takes := 5 ≤ v ∧ v ≤ 40) fun _ => ⟨rfl, RouteFields.read_alike fun k inside other => ?_⟩
  on_goal 11 => refine write_of_range (takes := 2 ≤ v ∧ v ≤ 50) fun _ => ⟨rfl, RouteFields.read_alike fun k inside other => ?_⟩
  all_goals interval_cases k <;> first | rfl | exact absurd rfl other

/-! ## The commands of the route table (R4 to R6) -/

/-- What ENABLE ROUTE answers of a DISABLED entry (R5). -/
theorem State.enableRouteAt_disabled {s : State} {entry : Nat} (inside : entry ≤ 47) (disabled : (s.route entry).state = .disabled) :
    (s.enableResult entry (s.route entry).fields = .done ∧
      s.enableRouteAt entry = ⟨s.modifyRoute entry RouteEntry.enable, .done, []⟩) ∨
    (s.enableResult entry (s.route entry).fields ≠ .done ∧
      s.enableRouteAt entry = ⟨s, s.enableResult entry (s.route entry).fields, []⟩) := by
  unfold State.enableRouteAt
  rw [if_neg (Nat.not_lt.2 inside), disabled]
  simp only
  split
  · rename_i done
    exact .inl ⟨done, rfl⟩
  · rename_i failed
    exact .inr ⟨failed, rfl⟩

/-- The relations of an entry's fields hold (R5). -/
theorem RouteFields.relationsFail_iff (f : RouteFields) : f.relationsFail = false ↔
    (streamOf f.cls ≠ none → f.staleTime < f.lostTime) ∧ (f.cls = .dashCommand ∨ f.cls = .serviceCommand → f.port = .a) := by
  have port : f.port = .b ↔ f.port ≠ .a := by cases f.port <;> decide
  simp only [RouteFields.relationsFail, Bool.or_eq_false_iff, Bool.and_eq_false_imp, decide_eq_false_iff_not, Nat.not_le,
    Option.isSome_iff_ne_none, port, ne_eq, not_and, not_not]

end Sys2Proof.Machine

namespace Sys2Proof.Proofs
open Sys2Proof.Machine

/-- Settles O39: standstill by the two cases of R26, and the gate before each of the nine commands. -/
theorem movingRefused : Obligations.MovingRefused := by
  unfold Obligations.MovingRefused
  intro s tag slow quiet u refused
  refine ⟨?_, fun moving => ?_⟩
  · rw [State.standstill_iff, StreamRecord.slow_iff, StreamRecord.slow_iff, StreamRecord.quiet_iff]
  · have gate : ∀ code run, (.next ((s.countTaken .service).gated code tag run) : Host.Outcome State Fault Refusal) =
        .next (u.refuseMoving code tag) := fun code run => congrArg _ (State.gated_moving moving code tag run)
    exact ⟨fun _ _ _ _ => gate 0x01 _, fun _ => gate 0x02 _, fun _ => gate 0x03 _, fun _ _ _ => gate 0x04 _, fun _ _ _ => gate 0x05 _,
      fun _ => gate 0x06 _, fun _ => gate 0x07 _, fun _ _ => gate 0x08 _, gate 0x09 _⟩

/-- Settles O48: the owner's answers by the entry's state, the ranges of the fields, and the checks in their order. -/
theorem routeFieldAndEnable : Obligations.RouteFieldAndEnable := by
  unfold Obligations.RouteFieldAndEnable
  refine ⟨?_, ?_⟩
  · intro s tag entry field value still u answered e v named allowed
    have sent : ∀ {t r}, u.writeRoute entry.toNat field.toNat v = ⟨t, r, []⟩ → answered t r := fun answer =>
      State.gated_answered (own := fun s => s.writeRoute entry.toNat field.toNat v) still answer
    have known : named → ¬(47 < entry.toNat ∨ 10 < field.toNat) := by
      rintro ⟨entries, fields⟩
      omega
    refine ⟨fun unknown => sent ?_, fun named free => sent ?_, fun named enabled => sent ?_, fun named disabled refused => sent ?_,
      fun named disabled takes => ?_⟩
    · exact if_pos (by simp only [named] at unknown; omega)
    · rw [State.writeRoute, if_neg (known named), show (u.route entry.toNat).state = .free from free]
      rfl
    · rw [State.writeRoute, if_neg (known named), show (u.route entry.toNat).state = .enabled from enabled]
      rfl
    · have write : (u.route entry.toNat).fields.write field.toNat v = none :=
        ((e.fields.write_cases named.2 v).resolve_left fun ⟨takes, _⟩ => refused takes).2
      rw [State.writeRoute, if_neg (known named), show (u.route entry.toNat).state = .disabled from disabled, write]
      rfl
    · obtain ⟨-, g, write, same, others⟩ := (e.fields.write_cases named.2 v).resolve_right fun ⟨refused, _⟩ => refused takes
      refine ⟨g, same, others, sent ?_⟩
      rw [State.writeRoute, if_neg (known named), show (u.route entry.toNat).state = .disabled from disabled,
        show (u.route entry.toNat).fields.write field.toNat v = some g from write]
      rfl
  · intro s tag entry still u answered e related doubled taken
    have sent : ∀ {t r}, u.enableRouteAt entry.toNat = ⟨t, r, []⟩ → answered t r := fun answer =>
      State.gated_answered (own := fun s => s.enableRouteAt entry.toNat) still answer
    refine ⟨fun unknown => sent (if_pos unknown), fun inside free => sent ?_, fun inside enabled => sent ?_, fun inside disabled => ?_⟩
    · rw [State.enableRouteAt, if_neg (Nat.not_lt.2 inside), show (u.route entry.toNat).state = .free from free]
      rfl
    · rw [State.enableRouteAt, if_neg (Nat.not_lt.2 inside), show (u.route entry.toNat).state = .enabled from enabled]
      rfl
    · obtain ⟨bad, duplicate, classTaken, done⟩ := u.enableResult_order entry.toNat e.fields
      have answers := State.enableRouteAt_disabled (s := u) inside disabled
      have failed : ∀ {r}, r ≠ .done → u.enableResult entry.toNat e.fields = r → answered u r := fun {r} fails result => by
        obtain ⟨-, answer⟩ := answers.resolve_left fun ⟨done, _⟩ => fails (result.symm.trans done)
        exact sent (answer.trans (congrArg (fun r => (⟨u, r, []⟩ : Answer)) result))
      have relations : e.fields.relationsFail = false ↔ related := e.fields.relationsFail_iff
      refine ⟨fun unrelated => failed nofun (bad ?_), fun holds twice => failed nofun (duplicate (relations.2 holds) twice),
        fun holds once held => failed nofun (classTaken (relations.2 holds) once held), fun holds once free => sent ?_⟩
      · exact Bool.eq_true_of_not_eq_false (mt relations.1 unrelated)
      · have passes := done (relations.2 holds) once free
        exact (answers.resolve_right fun ⟨fails, _⟩ => fails passes).2

end Sys2Proof.Proofs
end

section
/-! What a stream that leaves the trusted states does to governor control, the evaluator and the estimate (R23, R50, R69, R77, R111 to
R113), the ageing of streams (R18, R19), and DISABLE ROUTE (R6). -/

namespace Sys2Proof.Machine

/-! ## The loss of a governing stream -/

/-- The streams whose loss governor control acts on (R23). -/
def Governs (i : StreamId) : Prop := i = .inertial ∨ i = .wheelFront ∨ i = .wheelRear

/-- A governing loss in GOVERN is the fall to LIMP (R112). -/
theorem State.governingLoss_falls {s : State} (govern : s.governor.state = .govern) : s.governingLoss = s.fallToLimp := if_pos govern

/-- A governing loss during a job about to commit GOVERN withdraws the decision (R111). -/
theorem State.governingLoss_withdraws {s : State} (outside : s.governor.state ≠ .govern) (commits : s.committingGovern)
    (unfolded : s.eval.fold = false) : s.governingLoss = s.withdraw := by
  rw [State.governingLoss, if_neg outside, if_pos (by simp [commits, unfolded])]

/-- Any other governing loss outside GOVERN does nothing (R113; log 16). -/
theorem State.governingLoss_stands {s : State} (outside : s.governor.state ≠ .govern) (idle : ¬s.committingGovern ∨ s.eval.fold) :
    s.governingLoss = s := by
  refine (if_neg outside).trans (if_neg fun acts => ?_)
  simp only [Bool.and_eq_true, Bool.not_eq_true'] at acts
  rcases idle with waits | folded
  · exact waits acts.1
  · exact nomatch acts.2.symm.trans folded

/-- A running CEILING job is about to commit GOVERN (R111). -/
theorem State.committingGovern_iff (s : State) :
    s.committingGovern ↔ s.engine.ceilingRunning ∧ ∃ d, s.governor.committing = some d ∧ d.state = .govern := by
  simp only [State.committingGovern, Bool.and_eq_true]
  cases s.governor.committing <;> simp

/-- To governor control and the evaluator, a governing stream that leaves the trusted states is a governing loss (R23). -/
theorem State.leaveTrusted_governs (s : State) {i : StreamId} (governs : Governs i) :
    (s.leaveTrusted i).governor = s.governingLoss.governor ∧ (s.leaveTrusted i).eval = s.governingLoss.eval := by
  rcases governs with rfl | rfl | rfl
  · have commits : s.invalidateLean.committingGovern = s.committingGovern := by
      simp only [State.committingGovern, State.invalidateLean, Engine.voidLean_ceilingRunning]
    show s.invalidateLean.governingLoss.governor = _ ∧ s.invalidateLean.governingLoss.eval = _
    by_cases govern : s.governor.state = .govern
    · rw [State.governingLoss_falls govern, State.governingLoss_falls (s := s.invalidateLean) govern]
      refine ⟨rfl, ?_⟩
      simp only [State.fallToLimp, State.invalidateLean, Engine.voidLean_ceilingRunning]
    by_cases acts : s.committingGovern ∧ s.eval.fold = false
    · rw [State.governingLoss_withdraws govern acts.1 acts.2,
        State.governingLoss_withdraws (s := s.invalidateLean) govern (commits.trans acts.1) acts.2]
      exact ⟨rfl, rfl⟩
    · have idle : ¬s.committingGovern ∨ s.eval.fold := (not_and_or.1 acts).imp_right Bool.eq_true_of_not_eq_false
      rw [State.governingLoss_stands govern idle,
        State.governingLoss_stands (s := s.invalidateLean) govern (idle.imp_left (mt commits.symm.trans))]
      exact ⟨rfl, rfl⟩
  · exact ⟨rfl, rfl⟩
  · exact ⟨rfl, rfl⟩

/-- A governing loss reaches neither the estimate nor the engine. -/
theorem State.governingLoss_engine (s : State) : s.governingLoss.lean = s.lean ∧ s.governingLoss.engine = s.engine := by
  rw [s.governingLoss_frame.1]
  exact ⟨rfl, rfl⟩

/-- The inertial stream takes the estimate with it and voids a running LEAN job (R50, R36). -/
theorem State.leaveTrusted_inertial (s : State) :
    (s.leaveTrusted .inertial).lean = s.invalidateLean.lean ∧ (s.leaveTrusted .inertial).engine = s.engine.voidLean :=
  s.invalidateLean.governingLoss_engine

/-- No other stream reaches the estimate or the engine. -/
theorem State.leaveTrusted_lean (s : State) {i : StreamId} (other : i ≠ .inertial) :
    (s.leaveTrusted i).lean = s.lean ∧ (s.leaveTrusted i).engine = s.engine := by
  cases i with
  | inertial => exact absurd rfl other
  | wheelFront | wheelRear => exact s.governingLoss_engine
  | torqueRequest | riderSelect => exact ⟨rfl, rfl⟩

/-- The void mark of a running LEAN job (R36). -/
theorem Engine.voidLean_lean {e : Engine} {n : LeanSnapshot} {v : Bool} (running : e.running = some ⟨.lean n, v⟩) :
    e.voidLean.running = some ⟨.lean n, true⟩ := by
  simp [Engine.voidLean, running]

/-! ## Expiries (R18, R19) -/

theorem dueOption_some {now : Stamp} {timer : Option Timer} {tm : Timer} (runs : timer = some tm) (due : tm.setting ≤ ageOf now tm.start) :
    dueOption now timer = true := by
  rw [runs]
  exact decide_eq_true due

theorem dueOption_early {now : Stamp} {timer : Option Timer} (early : ∀ tm, timer = some tm → ageOf now tm.start < tm.setting) :
    dueOption now timer = false := by
  cases timer with
  | none => rfl
  | some tm => exact decide_eq_false (Nat.not_le.2 (early tm rfl))

/-! ## A stream that leaves the trusted states, and one that was in none -/

/-- A stream that leaves the trusted states (R23). -/
theorem State.moveStream_leaves {s : State} {i : StreamId} {r : StreamRecord} (trusted : (s.stream i).state.trusted)
    (left : r.state.trusted = false) (source : Source) : s.moveStream i source r =
      ((s.setStream i r).leaveTrusted i, (s.setStream i r).streamHandOffs i source ++ (s.setStream i r).leaveHandOffs i) :=
  if_pos ⟨trusted, left⟩

/-- A stream that was in no trusted state moves its record alone. -/
theorem State.moveStream_untrusted {s : State} {i : StreamId} (untrusted : (s.stream i).state.trusted = false) (source : Source)
    (r : StreamRecord) : (s.moveStream i source r).1 = s.setStream i r := by
  rw [State.moveStream_fst, if_neg (by simp [untrusted])]

/-- The torque request and rider selection streams bear on no condition and no other block (R23). -/
theorem State.moveStream_bystander {i : StreamId} (bystander : i = .torqueRequest ∨ i = .riderSelect) (s : State) (source : Source)
    (r : StreamRecord) : s.moveStream i source r = (s.setStream i r, []) := by
  rcases bystander with rfl | rfl <;>
    · unfold State.moveStream
      simp only
      repeat' split
      all_goals rfl

/-- A governing stream that leaves the trusted states in GOVERN takes the state to LIMP with X 0 (R69, R112). -/
theorem State.moveStream_falls {s : State} {i : StreamId} {r : StreamRecord} (governs : Governs i) (trusted : (s.stream i).state.trusted)
    (left : r.state.trusted = false) (govern : s.governor.state = .govern) (source : Source) :
    (s.moveStream i source r).1.governor = s.fallToLimp.governor ∧ (s.moveStream i source r).1.eval = s.fallToLimp.eval := by
  rw [State.moveStream_leaves trusted left]
  obtain ⟨governor, eval⟩ := (s.setStream i r).leaveTrusted_governs governs
  rw [State.governingLoss_falls (by simpa using govern)] at governor eval
  exact ⟨governor.trans (by simp [State.fallToLimp]), eval.trans (by simp [State.fallToLimp])⟩

/-- Outside GOVERN it withdraws a decision about to be committed, or does nothing (R111, R113). -/
theorem State.moveStream_outside {s : State} {i : StreamId} {r : StreamRecord} (governs : Governs i) (trusted : (s.stream i).state.trusted)
    (left : r.state.trusted = false) (outside : s.governor.state ≠ .govern) (source : Source) :
    (s.committingGovern → s.eval.fold = false →
      (s.moveStream i source r).1.governor = s.withdraw.governor ∧ (s.moveStream i source r).1.eval = s.withdraw.eval) ∧
    (¬s.committingGovern ∨ s.eval.fold →
      (s.moveStream i source r).1.governor = s.governor ∧ (s.moveStream i source r).1.eval = s.eval) := by
  rw [State.moveStream_leaves trusted left]
  obtain ⟨governor, eval⟩ := (s.setStream i r).leaveTrusted_governs governs
  have away : (s.setStream i r).governor.state ≠ .govern := by simpa using outside
  have commits : (s.setStream i r).committingGovern = s.committingGovern := by simp [State.committingGovern]
  have fold : (s.setStream i r).eval.fold = s.eval.fold := by simp
  refine ⟨fun acts unfolded => ?_, fun idle => ?_⟩
  · rw [State.governingLoss_withdraws away (commits.trans acts) (fold.trans unfolded)] at governor eval
    exact ⟨governor.trans (by simp [State.withdraw]), eval.trans (by simp [State.withdraw])⟩
  · rw [State.governingLoss_stands away (by rwa [commits, fold])] at governor eval
    exact ⟨governor.trans (by simp), eval.trans (by simp)⟩

/-- The inertial stream takes the estimate and the waiting samples with it (R50). -/
theorem State.moveStream_inertial {s : State} {r : StreamRecord} (trusted : s.inertial.state.trusted) (left : r.state.trusted = false)
    (source : Source) : (s.moveStream .inertial source r).1.lean = s.invalidateLean.lean ∧
      (s.moveStream .inertial source r).1.engine = s.engine.voidLean := by
  rw [State.moveStream_leaves (i := .inertial) trusted left]
  exact (s.setStream .inertial r).leaveTrusted_inertial

/-- No other stream reaches the estimate or the engine. -/
theorem State.moveStream_other {s : State} {i : StreamId} (other : i ≠ .inertial) (source : Source) (r : StreamRecord) :
    (s.moveStream i source r).1.lean = s.lean ∧ (s.moveStream i source r).1.engine = s.engine := by
  rw [State.moveStream_fst]
  split
  · obtain ⟨lean, engine⟩ := (s.setStream i r).leaveTrusted_lean other
    exact ⟨lean.trans (by simp), engine.trans (by simp)⟩
  · exact ⟨by simp, by simp⟩

/-! ## What DISABLE ROUTE answers (R6) -/

section
variable {s : State} {entry : Nat} (inside : entry ≤ 47)
include inside

theorem State.disableRouteAt_enabled (enabled : (s.route entry).state = .enabled) :
    s.disableRouteAt entry = answerPlain (s.disableEnabled entry) .done := by
  simp [State.disableRouteAt, Nat.not_lt.2 inside, enabled]

theorem State.disableRouteAt_disabled (disabled : (s.route entry).state = .disabled) :
    s.disableRouteAt entry = answerPlain s .done := by
  simp [State.disableRouteAt, Nat.not_lt.2 inside, disabled]

theorem State.disableRouteAt_free (free : (s.route entry).state = .free) :
    s.disableRouteAt entry = answerPlain (s.modifyRoute entry RouteEntry.claim) .done := by
  simp [State.disableRouteAt, Nat.not_lt.2 inside, free]

end

/-- Outside GOVERN a moved stream says nothing of GOVERN_DEGRADED (R111). -/
theorem State.moveStream_silent_degraded {s : State} {i : StreamId} {source : Source} {r : StreamRecord}
    (outside : s.governor.state ≠ .govern) : ∀ h ∈ (s.moveStream i source r).2, ∀ b, h.told ≠ some (.governDegraded, b) := by
  have streams : ∀ h ∈ (s.setStream i r).streamHandOffs i source, ∀ b, h.told ≠ some (.governDegraded, b) := by
    intro h m b told
    obtain ⟨c, _, said, loss, -⟩ := State.told_of_streamHandOffs m
    obtain ⟨rfl, -⟩ := Prod.mk.inj (Option.some.inj (said.symm.trans told))
    exact loss.elim nofun nofun
  have quiet : (s.setStream i r).lossHandOffs = [] := if_neg (by simpa using outside)
  have left : ∀ h ∈ (s.setStream i r).leaveHandOffs i, ∀ b, h.told ≠ some (.governDegraded, b) := by
    intro h m b
    cases i with
    | inertial =>
      rcases List.mem_cons.1 m with rfl | m
      · exact nofun
      · exact absurd m (by rw [quiet]; exact nofun)
    | wheelFront | wheelRear => exact absurd m (by rw [State.leaveHandOffs, quiet]; exact nofun)
    | torqueRequest | riderSelect => exact nomatch m
  unfold State.moveStream
  simp only
  split
  · exact fun h m => (List.mem_append.1 m).elim (streams h) (left h)
  · split
    · exact streams
    · exact nofun

end Sys2Proof.Machine

namespace Sys2Proof.Proofs
open Sys2Proof.Machine

/-- Settles O17: the two expiries due and undue, and the loss by what the stream governs. -/
theorem streamAges : Obligations.StreamAges := by
  unfold Obligations.StreamAges
  intro s k
  refine ⟨fun tm fresh timer due => ?_, fun undue => ?_, fun undue => ?_, fun tm stale timer due => ?_⟩
  · exact congrArg Host.Outcome.next (if_pos ⟨fresh, dueOption_some timer due⟩)
  · refine congrArg Host.Outcome.next (if_neg fun ⟨fresh, due⟩ => ?_)
    rcases undue with other | early
    · exact other fresh
    · exact nomatch (dueOption_early early).symm.trans due
  · refine congrArg Host.Outcome.next (if_neg fun ⟨stale, due⟩ => ?_)
    rcases undue with other | early
    · exact other stale
    · exact nomatch (dueOption_early early).symm.trans due
  have trusted : (s.stream k).state.trusted := by rw [stale]; rfl
  have left : ((s.stream k).leave .lost).state.trusted = false := rfl
  refine ⟨_, congrArg Host.Outcome.next (if_pos ⟨stale, dueOption_some timer due⟩), ?_, fun j other => ?_, fun governs govern => ?_,
    fun governs outside => ⟨fun commits unfolded => ?_, fun idle => ?_⟩, fun bystander => ?_, fun inertial => ?_, fun other => ?_,
    State.moveStream_routes .., State.moveStream_store .., State.moveStream_forwarder .., State.moveStream_portB ..,
    State.moveStream_commands ..⟩
  · rw [State.stream_handOffs, State.stream_moveStream_same]
    rfl
  · rw [State.stream_handOffs, State.stream_moveStream_ne _ _ _ other]
  · exact State.moveStream_falls governs trusted left govern _
  · obtain ⟨governor, eval⟩ := (State.moveStream_outside governs trusted left outside _).1 (s.committingGovern_iff.2 commits) unfolded
    refine ⟨governor, eval, ?_⟩
    rw [State.handOffs_cause_silent (State.moveStream_silent_degraded outside), State.moveStream_faults]
  · exact (State.moveStream_outside governs trusted left outside _).2 (idle.imp_left (mt s.committingGovern_iff.1))
  · simp only [State.moveStream_bystander bystander]
    rw [State.handOffs_idle _ [] nofun]
    exact ⟨by simp, by simp, by simp, by simp⟩
  · subst inertial
    obtain ⟨lean, engine⟩ := State.moveStream_inertial trusted left (s.routeSource (classOf .inertial))
    exact ⟨lean, fun n v running => (congrArg Engine.running engine).trans (Engine.voidLean_lean running)⟩
  · exact State.moveStream_other other _ _

/-- Settles O49: the owner's answer by the entry's state, and the stream of a consuming class back to UNSEEN. -/
theorem routeDisabled : Obligations.RouteDisabled := by
  unfold Obligations.RouteDisabled
  intro s tag entry still u answered e disabled
  have sent : ∀ {t r}, u.disableRouteAt entry.toNat = ⟨t, r, []⟩ → answered t r := fun answer =>
    State.gated_answered (own := fun s => s.disableRouteAt entry.toNat) still answer
  refine ⟨fun unknown => sent (if_pos unknown), fun inside state => sent (State.disableRouteAt_disabled (s := u) inside state),
    fun inside state => sent (State.disableRouteAt_free (s := u) inside state),
    fun inside state plain => sent ((State.disableRouteAt_enabled (s := u) inside state).trans ?_), fun k inside state consuming => ?_⟩
  · simp only [State.disableEnabled, show streamOf (u.route entry.toNat).fields.cls = none from plain]
    rfl
  · have left : u.disableEnabled entry.toNat = (disabled.moveStream k (.route entry.toNat) unseenRecord).1.handOffs
        (disabled.moveStream k (.route entry.toNat) unseenRecord).2 := by
      simp only [State.disableEnabled, show streamOf (u.route entry.toNat).fields.cls = some k from consuming]
      rfl
    have streams : ∀ j, disabled.stream j = s.stream j := fun j => by cases j <;> rfl
    refine ⟨_, sent ((State.disableRouteAt_enabled (s := u) inside state).trans (congrArg (answerPlain · .done) left)), ?_, fun j other => ?_, State.moveStream_routes ..,
      fun governs trusted govern => ?_, fun inertial trusted => ?_, fun untrusted => ?_, State.moveStream_store ..,
      State.moveStream_forwarder .., State.moveStream_portB .., State.moveStream_commands ..⟩
    · rw [State.stream_handOffs, State.stream_moveStream_same]
      rfl
    · rw [State.stream_handOffs, State.stream_moveStream_ne _ _ _ other, streams]
    · obtain ⟨governor, eval⟩ := State.moveStream_falls (s := disabled) (r := unseenRecord) governs (by rwa [streams]) rfl govern
        (.route entry.toNat)
      exact ⟨congrArg Governor.state governor, congrArg (·.cut) eval⟩
    · subst inertial
      obtain ⟨lean, -⟩ := State.moveStream_inertial (s := disabled) (r := unseenRecord) trusted rfl (.route entry.toNat)
      exact ⟨congrArg LeanState.valid lean, congrArg LeanState.queue lean⟩
    · have stands := State.moveStream_untrusted (s := disabled) (i := k) (by rwa [streams]) (.route entry.toNat) unseenRecord
      exact ⟨(congrArg State.governor stands).trans (by simp; rfl), (congrArg State.lean stands).trans (by simp; rfl),
        (congrArg State.eval stands).trans (by simp; rfl)⟩

end Sys2Proof.Proofs
end

section
/-! How many occurrences of an event class the hand-offs of one event count (R158, R159), and a rejected frame (R16, R20, R23). -/

namespace Sys2Proof.Machine

/-! ## Occurrences of an event class -/

/-- A hand-off is an occurrence of a class. -/
def HandOff.raises (c : FaultClass) : HandOff → Bool
  | .event d _ _ => decide (d = c)
  | .present _ _ _ => false
  | .absent _ => false

theorem FaultSide.takeHandOff_length (env : FaultEnv) (x : FaultSide) (h : HandOff) :
    (x.takeHandOff env h).unit.classes.length = x.unit.classes.length := by
  rw [← FaultUnit.causes_length, FaultSide.takeHandOff_causes, HandOff.mark_length, FaultUnit.causes_length]

/-- A hand-off counts an occurrence of an event class exactly when it is one: those of conditions are counted with their own class. -/
theorem FaultSide.takeHandOff_occurrences {env : FaultEnv} {x : FaultSide} (classes : x.unit.classes.length = 12) {c : FaultClass}
    {h : HandOff} (silent : ∀ b, h.told ≠ some (c, b)) :
    ((x.takeHandOff env h).unit.record c).occurrences =
      if h.raises c then bump (x.unit.record c).occurrences else (x.unit.record c).occurrences := by
  cases h with
  | event d source value =>
    by_cases here : d = c
    · subst here
      rw [if_pos (by simp [HandOff.raises])]
      exact congrArg (·.occurrences) (FaultSide.occur_record env d source value classes)
    · rw [if_neg (by simpa [HandOff.raises] using here)]
      obtain ⟨_, other, -⟩ := FaultSide.occur_record_ne env d source value classes (Ne.symm here)
      exact congrArg (·.occurrences) other
  | present d source value =>
    have apart : c ≠ d := fun same => silent true (by rw [same]; rfl)
    rw [if_neg (by simp [HandOff.raises])]
    cases before : (x.unit.record d).cause with
    | true => rw [FaultSide.takeHandOff_idle env x _ (by simp [HandOff.matters, before])]
    | false =>
      rw [FaultSide.takeHandOff_present source value env before]
      obtain ⟨_, other, -⟩ := FaultSide.occur_record_ne (x := x.marked d source value) env d source value
        (by simpa [FaultSide.marked] using classes) apart
      rw [other]
      exact congrArg (·.occurrences) (FaultUnit.record_modifyRecord_ne _ _ apart)
  | absent d =>
    have apart : c ≠ d := fun same => silent false (by rw [same]; rfl)
    rw [if_neg (by simp [HandOff.raises])]
    cases before : (x.unit.record d).cause with
    | false => rw [FaultSide.takeHandOff_idle env x _ (by simp [HandOff.matters, before])]
    | true =>
      have cleared : (x.cleared d).unit.record c = x.unit.record c := FaultUnit.record_modifyRecord_ne _ _ apart
      simp only [FaultSide.takeHandOff, before, if_true]
      split
      · have released := FaultSide.release_record env (c := d) (x := x.cleared d) (by simpa [FaultSide.cleared] using classes) c
        rw [if_neg apart, cleared] at released
        exact congrArg (·.occurrences) released
      · exact congrArg (·.occurrences) cleared

/-- Any number of hand-offs count the occurrences among them. -/
theorem FaultSide.takeAll_occurrences {env : FaultEnv} {x : FaultSide} (classes : x.unit.classes.length = 12) {c : FaultClass}
    {hs : List HandOff} (silent : ∀ h ∈ hs, ∀ b, h.told ≠ some (c, b)) :
    ((x.takeAll env hs).unit.record c).occurrences = bump^[hs.countP (HandOff.raises c)] (x.unit.record c).occurrences := by
  unfold FaultSide.takeAll
  induction hs generalizing x with
  | nil => rfl
  | cons h hs ih =>
    have one := FaultSide.takeHandOff_occurrences (env := env) classes (silent h List.mem_cons_self)
    rw [List.foldl_cons, ih ((x.takeHandOff_length env h).trans classes) fun g m => silent g (List.mem_cons_of_mem _ m), one,
      List.countP_cons]
    split
    · rw [Function.iterate_succ_apply]
    · rfl

/-- The hand-offs of one event count the occurrences among them, in whatever order they are taken (R159). -/
theorem State.handOffs_occurrences {s : State} (classes : s.faults.classes.length = 12) {c : FaultClass} {hs : List HandOff}
    (silent : ∀ h ∈ hs, ∀ b, h.told ≠ some (c, b)) :
    ((s.handOffs hs).faults.record c).occurrences = bump^[hs.countP (HandOff.raises c)] (s.faults.record c).occurrences := by
  obtain ⟨taken, side, once⟩ := s.handOffs_taken hs
  have raisers : (hs.filter (HandOff.matters s.faults)).countP (HandOff.raises c) = hs.countP (HandOff.raises c) := by
    rw [List.countP_filter]
    refine List.countP_congr fun h _ => ?_
    cases h <;> simp [HandOff.raises, HandOff.matters]
  have unit : (s.handOffs hs).faults = (s.faultSide.takeAll s.faultEnv taken).unit := congrArg (·.unit) side
  rw [unit, FaultSide.takeAll_occurrences classes fun h m => silent h (List.mem_of_mem_filter (once.mem_iff.1 m)),
    once.countP_eq, raisers]
  rfl

/-- A saturating counter increased several times. -/
theorem iterate_bump (n x : Nat) : bump^[n] x = if n = 0 then x else min (x + n) 65535 := by
  induction n with
  | zero => rfl
  | succ n ih =>
    rw [Function.iterate_succ_apply', ih, if_neg (Nat.succ_ne_zero n)]
    split <;> simp only [bump, counterMax] <;> omega

/-- What tells of a condition is no occurrence. -/
theorem HandOff.raises_of_told {h : HandOff} {d : FaultClass} {b : Bool} (told : h.told = some (d, b)) (c : FaultClass) :
    h.raises c = false := by
  cases h with
  | event _ _ _ => exact nomatch told
  | present _ _ _ | absent _ => rfl

/-- The hand-offs of a moved stream tell of conditions (R23). -/
theorem State.moveStream_told {s : State} {i : StreamId} {source : Source} {r : StreamRecord} {h : HandOff}
    (m : h ∈ (s.moveStream i source r).2) : ∃ c b, h.told = some (c, b) ∧ c.isCondition := by
  have streams : h ∈ (s.setStream i r).streamHandOffs i source → ∃ c b, h.told = some (c, b) ∧ c.isCondition := fun m => by
    obtain ⟨c, b, told, loss, -⟩ := State.told_of_streamHandOffs m
    exact ⟨c, b, told, by rcases loss with rfl | rfl <;> rfl⟩
  unfold State.moveStream at m
  simp only at m
  split at m
  · rcases List.mem_append.1 m with m | m
    · exact streams m
    · rcases State.told_of_leaveHandOffs m with told | told <;> exact ⟨_, _, told, rfl⟩
  · split at m
    · exact streams m
    · exact nomatch m

theorem State.moveStream_silent_event {s : State} {i : StreamId} {source : Source} {r : StreamRecord} {c : FaultClass}
    (isEvent : c.isCondition = false) : ∀ h ∈ (s.moveStream i source r).2, ∀ b, h.told ≠ some (c, b) := by
  intro h m b told
  obtain ⟨d, _, said, condition⟩ := State.moveStream_told m
  obtain ⟨rfl, -⟩ := Prod.mk.inj (Option.some.inj (said.symm.trans told))
  exact nomatch condition.symm.trans isEvent

theorem State.moveStream_raises_none (s : State) (i : StreamId) (source : Source) (r : StreamRecord) (c : FaultClass) :
    (s.moveStream i source r).2.countP (HandOff.raises c) = 0 := by
  rw [List.countP_eq_zero]
  intro h m
  obtain ⟨_, _, told, -⟩ := State.moveStream_told m
  simp [HandOff.raises_of_told told]

/-! ## A loss that is told (R23) -/

/-- The loss condition that a governing stream bears on (R23). -/
def lossClass : StreamId → FaultClass
  | .inertial => .inertialLoss
  | .wheelFront | .wheelRear | .torqueRequest | .riderSelect => .wheelLoss

/-- A governing stream that is out makes its loss condition present (R23). -/
theorem State.streamHandOffs_out {s : State} {i : StreamId} (governs : Governs i) (out : (s.stream i).state.out) (source : Source) :
    ∃ h ∈ s.streamHandOffs i source, h.told = some (lossClass i, true) := by
  rcases governs with rfl | rfl | rfl
  · exact ⟨_, (if_pos out : s.streamHandOffs .inertial source = _) ▸ List.mem_singleton_self _, rfl⟩
  · exact ⟨_, (if_pos out : s.streamHandOffs .wheelFront source = _) ▸ List.mem_singleton_self _, rfl⟩
  · exact ⟨_, (if_pos out : s.streamHandOffs .wheelRear source = _) ▸ List.mem_singleton_self _, rfl⟩

/-- The fault unit holds the loss condition present once a governing stream has left the trusted states for LOST or FAULTY. -/
theorem State.moveStream_loss_present {s : State} {i : StreamId} {source : Source} {r : StreamRecord} (governs : Governs i)
    (trusted : (s.stream i).state.trusted) (out : r.state.out) (classes : s.faults.classes.length = 12) {raised : List HandOff}
    (silent : ∀ h ∈ raised, h.told = none) :
    (((s.moveStream i source r).1.handOffs (raised ++ (s.moveStream i source r).2)).faults.record (lossClass i)).cause := by
  have moved := State.moveStream_leaves trusted (StreamState.not_trusted out) source
  obtain ⟨g, n, said⟩ := State.streamHandOffs_out (s := s.setStream i r) governs (by rwa [State.stream_setStream_same]) source
  have tells := (s.moveStream_tells i source r).raised silent
  have there : g ∈ raised ++ (s.moveStream i source r).2 := List.mem_append_right _ (by rw [moved]; exact List.mem_append_left _ n)
  have present : (s.moveStream i source r).1.condition (lossClass i) = true := (tells.agrees g there _ _ said).symm
  refine State.handOffs_cause ?_ (fun h m b told => (tells.agrees h m _ b told).trans present) (.inr ⟨g, there, said⟩)
  rw [FaultUnit.causes_length, State.moveStream_faults, classes]

/-! ## A rejected frame (R16) -/

/-- A rejected frame's record by its state (R16). -/
theorem StreamRecord.reject_eq (r : StreamRecord) : r.reject = match r.state with
    | .unseen => { r with rejects := min (r.rejects + 1) 4 }
    | .fresh => if r.rejects + 1 < 4 then { r with rejects := r.rejects + 1 } else r.leave .faulty
    | .stale => if r.rejects + 1 < 4 then { r with rejects := r.rejects + 1 } else r.leave .faulty
    | .lost => { r with recovery := 0 }
    | .faulty => { r with recovery := 0 } := by
  have few : ∀ x y : StreamRecord, (if 4 ≤ r.rejects + 1 then x else y) = if r.rejects + 1 < 4 then y else x := fun x y => by
    simp only [← Nat.not_lt, ite_not]
  obtain ⟨state, _, _, _, _, rejects, _, _, _, _⟩ := r
  cases state with
  | fresh | stale => exact few _ _
  | unseen | lost | faulty => rfl

/-- A record that does not become FAULTY stays as trusted and as far out as it was (R16). -/
theorem StreamRecord.reject_stays {r : StreamRecord} (few : ¬(r.state.trusted ∧ 4 ≤ r.rejects + 1)) : r.reject.state = r.state := by
  rcases r.state.cases_trust with unseen | trusted | out
  · rw [StreamRecord.reject_unseen unseen]
  · rw [StreamRecord.reject_trusted trusted, if_neg fun fourth => few ⟨trusted, fourth⟩]
  · rw [StreamRecord.reject_out out]

theorem StreamRecord.reject_falls {r : StreamRecord} (trusted : r.state.trusted) (fourth : 4 ≤ r.rejects + 1) :
    r.reject = r.leave .faulty := by
  rw [StreamRecord.reject_trusted trusted, if_pos fourth]

/-- A matched frame within budget that its class's checks reject is handled as rejected (R16). -/
theorem exec_rejected {s : State} {p : PortId} {f : Frame} {i : Nat} {k : StreamId} {cls : FaultClass} {value : Half}
    (matched : s.Matched p f i) (budget : s.HasBudget i) (consuming : streamOf (s.route i).fields.cls = some k)
    (judged : judge s.store.chassis k (s.stream k) (s.route i).fields f = .rejected cls value) :
    exec (.receivedFrame p f) s = .next
      ((((s.admitted p i).countRoute i RouteCounts.reject).moveStream k (.route i) (s.stream k).reject).1.handOffs
        ([.event cls (.route i) value] ++
          (((s.admitted p i).countRoute i RouteCounts.reject).moveStream k (.route i) (s.stream k).reject).2)) := by
  refine (execReceivedFrame_consuming matched budget consuming).trans ?_
  simp [State.supervise, judged, State.rejectFrame]

/-- Outside GOVERN no moved stream changes the state of governor control (R111, R113). -/
theorem State.moveStream_state_outside {s : State} (outside : s.governor.state ≠ .govern) (i : StreamId) (source : Source)
    (r : StreamRecord) : (s.moveStream i source r).1.governor.state = s.governor.state := by
  have losses : ∀ u : State, u.governor.state ≠ .govern → u.governingLoss.governor.state = u.governor.state := fun u away => by
    rw [State.governingLoss, if_neg away]
    split <;> rfl
  rw [State.moveStream_fst]
  split
  · refine Eq.trans ?_ (congrArg Governor.state (s.setStream_governor i r))
    have away : (s.setStream i r).governor.state ≠ .govern := by simpa using outside
    cases i with
    | inertial => exact losses (s.setStream .inertial r).invalidateLean away
    | wheelFront | wheelRear => exact losses _ away
    | torqueRequest | riderSelect => rfl
  · rw [State.setStream_governor]

/-- A record rejected into FAULTY: its stream leaves the trusted states, and Port A gets alert frames alone (R16, R20, R23). -/
theorem State.moveStream_faulty {c : State} {k : StreamId} {r : StreamRecord} (trusted : (c.stream k).state.trusted) (out : r.state.out)
    {cls : FaultClass} (isEvent : cls.isCondition = false) (source : Source) (value : Half) :
    let t := (c.moveStream k source r).1.handOffs ([.event cls source value] ++ (c.moveStream k source r).2)
    c.portA.AlertedTo t.portA ∧ (k ≠ .inertial → t.lean = c.lean ∧ t.engine = c.engine) ∧
      (k = .inertial → t.lean = c.invalidateLean.lean) ∧
      (Governs k → c.governor.state = .govern → t.governor.state = .limp) ∧
      (c.governor.state ≠ .govern → t.governor.state = c.governor.state) ∧
      (c.faults.classes.length = 12 → (t.faults.record cls).occurrences = bump (c.faults.record cls).occurrences ∧
        (Governs k → (t.faults.record (lossClass k)).cause)) := by
  have left := StreamState.not_trusted out
  have silent : ∀ h ∈ [HandOff.event cls source value], h.told = none := fun h m => by rw [List.mem_singleton.1 m]; rfl
  refine ⟨?_, fun other => State.moveStream_other other _ _, fun inertial => ?_, fun governs govern => ?_,
    fun outside => State.moveStream_state_outside outside _ _ _,
    fun classes => ⟨?_, fun governs => State.moveStream_loss_present governs trusted out classes silent⟩⟩
  · rw [← State.moveStream_portA c k source r]
    exact State.handOffs_alerted _ _
  · subst inertial
    exact (State.moveStream_inertial trusted left source).1
  · exact congrArg Governor.state (State.moveStream_falls governs trusted left govern source).1
  · rw [State.handOffs_occurrences (by rw [State.moveStream_faults, classes]) (c := cls), State.moveStream_faults]
    · simp [HandOff.raises, State.moveStream_raises_none]
    · intro h m
      rcases List.mem_cons.1 m with rfl | m
      · exact nofun
      · exact State.moveStream_silent_event isEvent h m

end Sys2Proof.Machine

namespace Sys2Proof.Proofs
open Sys2Proof.Machine

/-- Settles O10: the record by its state, and the move of its stream, which is none while it does not become FAULTY. -/
theorem frameRejected : Obligations.FrameRejected := by
  unfold Obligations.FrameRejected
  intro s p f i k cls value matched budget consuming judged r faulty after counted falls
  have record : (s.stream k).reject = after := (s.stream k).reject_eq
  have trusted_iff : (r.state = .fresh ∨ r.state = .stale) ↔ r.state.trusted := (StreamState.trusted_iff _).symm
  have streams : ∀ j, counted.stream j = s.stream j := fun j => by simp [counted]
  refine ⟨_, exec_rejected matched budget consuming judged, ?_, fun j other => ?_,
    fun j => congrArg (·.getD j freeEntry) (State.moveStream_routes ..), (State.moveStream_store ..).trans (s.admitted_store p i),
    (State.moveStream_forwarder ..).trans (s.admitted_forwarder p i), (State.moveStream_commands ..).trans (s.admitted_commands p i),
    (State.moveStream_now ..).trans (s.admitted_now p i), State.moveStream_portB .., ?_, ?_, ?_, ?_, fun stays => ?_,
    fun ⟨held, fourth⟩ => ?_⟩
  · rw [State.stream_handOffs, State.stream_moveStream_same, record]
  · rw [State.stream_handOffs, State.stream_moveStream_ne _ _ _ other]
    exact streams j
  · exact (State.moveStream_eval_published ..).trans (congrArg (·.published) (s.admitted_eval p i))
  · exact (State.moveStream_lean_lean ..).trans (congrArg (·.lean) (s.admitted_lean p i))
  · exact (State.moveStream_governor_wanted ..).trans (congrArg (·.wanted) (s.admitted_governor p i))
  · exact (State.moveStream_governor_applied ..).trans (congrArg (·.applied) (s.admitted_governor p i))
  · have state : (s.stream k).reject.state = (counted.stream k).state := by
      rw [streams]
      exact StreamRecord.reject_stays fun ⟨trusted, fourth⟩ => stays ⟨trusted_iff.2 trusted, fourth⟩
    have moved : counted.moveStream k (.route i) (s.stream k).reject = (counted.setStream k (s.stream k).reject, []) :=
      State.moveStream_same _ _ _ _ (by rw [state]) (by rw [state])
    show (counted.moveStream k (.route i) (s.stream k).reject).1.handOffs
      ([_] ++ (counted.moveStream k (.route i) (s.stream k).reject).2) = _
    rw [moved, ← record]
    exact State.handOffs_one _ _
  · have trusted : (counted.stream k).state.trusted := by
      rw [streams]
      exact trusted_iff.1 held
    have out : (s.stream k).reject.state.out := by
      rw [StreamRecord.reject_falls (trusted_iff.1 held) fourth]
      rfl
    have leanStands : counted.lean = s.lean := s.admitted_lean p i
    have engineStands : counted.engine = s.engine := s.admitted_engine p i
    have governorStands : counted.governor = s.governor := s.admitted_governor p i
    have faultsStand : counted.faults = s.faults := s.admitted_faults p i
    obtain ⟨alerted, others, inertial, falls, outside, told⟩ :=
      State.moveStream_faulty trusted out (judge_rejects_event judged) (.route i) value
    rw [State.invalidateLean, leanStands] at inertial
    rw [leanStands, engineStands] at others
    rw [governorStands] at falls outside
    rw [faultsStand] at told
    refine ⟨alerted, others, inertial, falls, outside, fun classes => ?_⟩
    obtain ⟨counts, present⟩ := told classes
    refine ⟨counts, fun inertial => ?_, fun wheel => ?_⟩
    · subst inertial
      exact present (.inl rfl)
    · have lossIs : lossClass k = .wheelLoss := by rcases wheel with rfl | rfl <;> rfl
      rw [← lossIs]
      exact present (.inr wheel)

end Sys2Proof.Proofs
end

section
/-! The closing of the policing windows and its floods (R9, R20). -/

namespace Sys2Proof.Machine

/-! ## The entries that flood -/

/-- An ENABLED entry whose window has dropped frames for the third time in a row (R9). -/
def RouteEntry.floods (e : RouteEntry) : Bool := decide (e.state = .enabled ∧ e.droppedMark ∧ 2 ≤ e.floodStreak)

/-- A closed window stands at streak 3 exactly where its entry floods (R9). -/
theorem RouteEntry.floods_iff (e : RouteEntry) :
    (e.windowExpiry.state = .enabled ∧ e.windowExpiry.floodStreak = 3) ↔ e.floods := by
  simp only [RouteEntry.floods, RouteEntry.windowExpiry, decide_eq_true_eq]
  cases e.droppedMark with
  | false => simp
  | true =>
    simp only [if_true, true_and]
    exact and_congr_right fun _ => by omega

/-- The state with every window closed, before the floods are told (R9; log 30). -/
def State.windowsClosed (s : State) : State :=
  { s with routes := s.routes.map RouteEntry.windowExpiry, policingStart := s.policingStart + BitVec.ofNat 16 policingWindow }

theorem State.route_windowsClosed (s : State) (i : Nat) : s.windowsClosed.route i = (s.route i).windowExpiry := by
  simp only [State.route, State.windowsClosed, List.getD_eq_getElem?_getD, List.getElem?_map]
  cases s.routes[i]? <;> rfl

/-- The floods are raised for the entries that flood, each at its index. -/
theorem State.mem_flooding (s : State) (x : Nat × RouteEntry) :
    x ∈ s.windowsClosed.flooding ↔ x.2 = (s.route x.1).windowExpiry ∧ (s.route x.1).floods := by
  obtain ⟨i, e⟩ := x
  simp only [State.flooding, List.mem_map, List.mem_filter, Prod.exists, Prod.mk.injEq, List.mem_zipIdx_iff_getElem?, decide_eq_true_eq]
  constructor
  · rintro ⟨_, _, ⟨held, enabled⟩, rfl, rfl⟩
    rename_i e i
    have read : e = (s.route i).windowExpiry := by
      rw [← s.route_windowsClosed, State.route, List.getD_eq_getElem?_getD, held]
      rfl
    exact ⟨read, (s.route i).floods_iff.1 (read ▸ enabled)⟩
  · rintro ⟨rfl, floods⟩
    have closed := (s.route i).floods_iff.2 floods
    rw [← s.route_windowsClosed] at closed ⊢
    have inside : i < s.windowsClosed.routes.length := State.lt_length_of_route (by rw [closed.1]; nofun)
    exact ⟨_, i, ⟨by simp [State.route, List.getD_eq_getElem?_getD, inside], closed⟩, rfl, rfl⟩

/-- There are as many floods as entries that flood. -/
theorem State.flooding_length (s : State) : s.windowsClosed.flooding.length = s.routes.countP RouteEntry.floods := by
  have closed : (s.windowsClosed.routes.zipIdx.filter fun x => decide (x.1.state = .enabled ∧ x.1.floodStreak = 3)).length =
      s.windowsClosed.routes.countP fun e => decide (e.state = .enabled ∧ e.floodStreak = 3) := by
    rw [← List.countP_eq_length_filter]
    conv_rhs => rw [← List.zipIdx_map_fst 0 s.windowsClosed.routes, List.countP_map]
    rfl
  refine (List.length_map _).trans (closed.trans ?_)
  rw [State.windowsClosed, List.countP_map]
  exact List.countP_congr fun e _ => by simpa using e.floods_iff

/-- One index is raised at most once. -/
theorem State.flooding_nodup (s : State) : (s.flooding.map Prod.fst).Nodup := by
  rw [State.flooding, List.map_map]
  exact (List.filter_sublist.map Prod.snd).nodup (List.nodup_zipIdx_map_snd _)

/-- An entry that floods alone is raised alone. -/
theorem State.flooding_single {s : State} {i : Nat} (floods : (s.route i).floods) (alone : ∀ j, (s.route j).floods → j = i) :
    s.windowsClosed.flooding = [(i, (s.route i).windowExpiry)] := by
  have here : (i, (s.route i).windowExpiry) ∈ s.windowsClosed.flooding := (s.mem_flooding _).2 ⟨rfl, floods⟩
  have only : ∀ x ∈ s.windowsClosed.flooding, x = (i, (s.route i).windowExpiry) := fun x m => by
    obtain ⟨entry, raises⟩ := (s.mem_flooding x).1 m
    have index := alone _ raises
    exact Prod.ext index (by rw [entry, index])
  have once := s.windowsClosed.flooding_nodup
  cases flooding : s.windowsClosed.flooding with
  | nil => exact nomatch flooding ▸ here
  | cons x rest =>
    rw [flooding] at only once
    cases rest with
    | nil => rw [only x List.mem_cons_self]
    | cons y rest =>
      rw [only x List.mem_cons_self, only y (List.mem_cons_of_mem _ List.mem_cons_self)] at once
      exact absurd once (by simp)

/-- With no entry that floods nothing is raised. -/
theorem State.flooding_none {s : State} (none : ∀ i, ¬(s.route i).floods) : s.windowsClosed.flooding = [] :=
  List.eq_nil_iff_forall_not_mem.2 fun x m => none _ ((s.mem_flooding x).1 m).2

/-! ## What the floods do -/

/-- What no moved stream reaches, the floods leave. -/
theorem floods_keep {α : Type} (part : State → α) (keeps : ∀ s i source r, part (State.moveStream s i source r).1 = part s)
    (xs : List (Nat × RouteEntry)) (acc : State × List HandOff) : part (xs.foldl floodEntry acc).1 = part acc.1 := by
  induction xs generalizing acc with
  | nil => rfl
  | cons x xs ih =>
    refine (ih _).trans ?_
    unfold floodEntry
    split
    · rfl
    · exact keeps _ _ _ _

/-- A second flood of a stream changes nothing. -/
theorem StreamRecord.flood_flood (r : StreamRecord) : r.flood.flood = r.flood := by
  rcases r.state.cases_trust with unseen | trusted | out
  · rw [StreamRecord.flood_unseen unseen, StreamRecord.flood_unseen unseen]
  · rw [StreamRecord.flood_trusted trusted, StreamRecord.flood_out rfl]
    rfl
  · rw [StreamRecord.flood_out out]
    exact StreamRecord.flood_out out

/-- A flooded record by its state (R20). -/
theorem StreamRecord.flood_eq (r : StreamRecord) : r.flood = match r.state with
    | .unseen => r
    | .fresh => r.leave .faulty
    | .stale => r.leave .faulty
    | .lost => { r with recovery := 0 }
    | .faulty => { r with recovery := 0 } := rfl

/-- A flood leaves an untrusted stream in its state. -/
theorem StreamRecord.flood_untrusted {r : StreamRecord} (untrusted : r.state.trusted = false) : r.flood.state = r.state := by
  rcases r.state.cases_trust with unseen | trusted | out
  · rw [StreamRecord.flood_unseen unseen]
  · exact nomatch untrusted.symm.trans trusted
  · rw [StreamRecord.flood_out out]

/-- A stream of which no flooding entry is the feed stands. -/
theorem floods_other {k : StreamId} (xs : List (Nat × RouteEntry)) (acc : State × List HandOff)
    (none : ∀ x ∈ xs, streamOf x.2.fields.cls ≠ some k) : (xs.foldl floodEntry acc).1.stream k = acc.1.stream k := by
  induction xs generalizing acc with
  | nil => rfl
  | cons x xs ih =>
    refine (ih _ fun y m => none y (List.mem_cons_of_mem _ m)).trans ?_
    unfold floodEntry
    split
    · rfl
    · rename_i i feeds
      exact State.stream_moveStream_ne _ _ _ fun same => none x List.mem_cons_self (same ▸ feeds)

/-- A stream of which a flooding entry is the feed is flooded, once or more. -/
theorem floods_one {k : StreamId} (xs : List (Nat × RouteEntry)) (acc : State × List HandOff)
    (some : ∃ x ∈ xs, streamOf x.2.fields.cls = some k) : (xs.foldl floodEntry acc).1.stream k = (acc.1.stream k).flood := by
  induction xs generalizing acc with
  | nil =>
    obtain ⟨_, m, -⟩ := some
    exact nomatch m
  | cons x xs ih =>
    have head : (floodEntry acc x).1.stream k = acc.1.stream k ∧ streamOf x.2.fields.cls ≠ .some k ∨
        (floodEntry acc x).1.stream k = (acc.1.stream k).flood ∧ streamOf x.2.fields.cls = .some k := by
      unfold floodEntry
      split
      · rename_i feeds
        exact .inl ⟨rfl, by rw [feeds]; nofun⟩
      · rename_i i feeds
        by_cases here : k = i
        · subst here
          exact .inr ⟨State.stream_moveStream_same _ _ _ _, feeds⟩
        · exact .inl ⟨State.stream_moveStream_ne _ _ _ here, by rw [feeds]; exact fun same => here (Option.some.inj same).symm⟩
    rw [List.foldl_cons]
    by_cases rest : ∃ y ∈ xs, streamOf y.2.fields.cls = .some k
    · rw [ih _ rest]
      rcases head with ⟨stands, -⟩ | ⟨flooded, -⟩
      · rw [stands]
      · rw [flooded, StreamRecord.flood_flood]
    · rw [floods_other xs _ fun y m feeds => rest ⟨y, m, feeds⟩]
      rcases head with ⟨-, other⟩ | ⟨flooded, -⟩
      · obtain ⟨y, m, feeds⟩ := some
        rcases List.mem_cons.1 m with rfl | m
        · exact absurd feeds other
        · exact absurd ⟨y, m, feeds⟩ rest
      · exact flooded

/-- The flood of an entry that feeds no stream is its occurrence. -/
theorem floodEntry_plain {acc : State × List HandOff} {x : Nat × RouteEntry} (plain : streamOf x.2.fields.cls = none) :
    floodEntry acc x = (acc.1, acc.2 ++ [.event .streamFlood (.route x.1) (BitVec.ofNat 16 x.2.counts.overBudget)]) := by
  simp [floodEntry, plain]

/-- The flood of an entry whose stream is untrusted is its occurrence and the record's. -/
theorem floodEntry_untrusted {acc : State × List HandOff} {x : Nat × RouteEntry} {k : StreamId} (feeds : streamOf x.2.fields.cls = some k)
    (untrusted : (acc.1.stream k).state.trusted = false) : floodEntry acc x = (acc.1.setStream k (acc.1.stream k).flood,
      acc.2 ++ [.event .streamFlood (.route x.1) (BitVec.ofNat 16 x.2.counts.overBudget)]) := by
  have state := StreamRecord.flood_untrusted untrusted
  simp [floodEntry, feeds, State.moveStream_same acc.1 k (.route x.1) _ (congrArg _ state) (congrArg _ state)]

/-- The floods owe as many STREAM_FLOOD occurrences as entries, and nothing else of that class. -/
theorem floods_raise (xs : List (Nat × RouteEntry)) (acc : State × List HandOff) :
    (xs.foldl floodEntry acc).2.countP (HandOff.raises .streamFlood) = acc.2.countP (HandOff.raises .streamFlood) + xs.length := by
  induction xs generalizing acc with
  | nil => rfl
  | cons x xs ih =>
    have one : (floodEntry acc x).2.countP (HandOff.raises .streamFlood) = acc.2.countP (HandOff.raises .streamFlood) + 1 := by
      unfold floodEntry
      split <;> simp [List.countP_append, HandOff.raises, State.moveStream_raises_none]
    rw [List.foldl_cons, ih, one, List.length_cons]
    omega

theorem floods_silent (xs : List (Nat × RouteEntry)) (acc : State × List HandOff)
    (silent : ∀ h ∈ acc.2, ∀ b, h.told ≠ some (.streamFlood, b)) :
    ∀ h ∈ (xs.foldl floodEntry acc).2, ∀ b, h.told ≠ some (.streamFlood, b) := by
  induction xs generalizing acc with
  | nil => exact silent
  | cons x xs ih =>
    refine ih _ fun h m => ?_
    unfold floodEntry at m
    split at m
    · rcases List.mem_append.1 m with m | m
      · exact silent h m
      · rw [List.mem_singleton.1 m]
        exact nofun
    · rcases List.mem_append.1 m with m | m
      · exact silent h m
      · rcases List.mem_cons.1 m with rfl | m
        · exact nofun
        · exact State.moveStream_silent_event rfl h m

/-- The state after a due window expiry's floods, before they are told (R9). -/
def State.flooded (s : State) : State × List HandOff := s.windowsClosed.flooding.foldl floodEntry (s.windowsClosed, [])

theorem State.windowExpiry_eq (s : State) : s.windowExpiry = s.flooded.1.handOffs s.flooded.2 := rfl

/-- What neither a moved stream nor a hand-off reaches, a window expiry leaves as its closing does. -/
theorem State.windowExpiry_keeps {α : Type} (s : State) (part : State → α)
    (moves : ∀ s i source r, part (State.moveStream s i source r).1 = part s) (tells : ∀ s hs, part (State.handOffs s hs) = part s) :
    part s.windowExpiry = part s.windowsClosed :=
  (tells _ _).trans (floods_keep part moves _ _)

end Sys2Proof.Machine

namespace Sys2Proof.Proofs
open Sys2Proof.Machine

/-- Settles O16: the windows closed, and the floods of the entries that have dropped frames three windows in a row. -/
theorem policingWindowExpires : Obligations.PolicingWindowExpires := by
  unfold Obligations.PolicingWindowExpires
  intro s
  rcases Nat.lt_or_ge (ageOf s.now s.policingStart) 100 with early | due
  · refine ⟨s, congrArg Host.Outcome.next (if_neg (by rw [timerDue, decide_eq_true_eq, Nat.not_le]; exact early)), fun _ => rfl, fun due => absurd due (by omega)⟩
  refine ⟨s.windowExpiry, congrArg Host.Outcome.next (if_pos (decide_eq_true due)), ?_⟩
  intro floods closed raised number
  refine ⟨fun early => absurd early (by omega), fun _ => ?_⟩
  have floods_iff : ∀ i, floods i ↔ (s.route i).floods := fun i => by simp [floods, RouteEntry.floods]
  have routes : s.windowExpiry.routes = s.windowsClosed.routes := s.windowExpiry_keeps State.routes (by simp) fun _ _ => rfl
  have start : s.windowExpiry.policingStart = s.windowsClosed.policingStart := s.windowExpiry_keeps State.policingStart (by simp) fun _ _ => rfl
  have isClosed : closed = s.windowsClosed := by simp only [closed, routes, start]; rfl
  have feeds : ∀ {x}, x ∈ s.windowsClosed.flooding → floods x.1 ∧ x.2.fields = (s.route x.1).fields := fun m => by
    obtain ⟨entry, raises⟩ := (s.mem_flooding _).1 m
    exact ⟨(floods_iff _).2 raises, by rw [entry]; rfl⟩
  refine ⟨start, fun i => ?_, fun k none => ?_, fun i k raises fed => ?_, fun none => ?_, fun i raises alone => ?_, fun classes => ?_, ?_,
    s.windowExpiry_keeps State.forwarder (by simp) fun _ _ => rfl, s.windowExpiry_keeps State.store (by simp) fun _ _ => rfl, s.windowExpiry_keeps State.commands (by simp) fun _ _ => rfl,
    s.windowExpiry_keeps State.portB (by simp) fun _ _ => rfl, s.windowExpiry_keeps (fun s => s.eval.published) (by simp) fun _ _ => rfl,
    s.windowExpiry_keeps (fun s => s.lean.lean) (by simp) fun _ _ => rfl⟩
  · exact (congrArg (·.getD i freeEntry) routes).trans (s.route_windowsClosed i)
  · rw [State.windowExpiry_eq, State.stream_handOffs]
    refine (floods_other _ _ fun x m fed => none x.1 (feeds m).1 ((feeds m).2 ▸ fed)).trans (by cases k <;> rfl)
  · refine Eq.trans ?_ (s.stream k).flood_eq
    rw [State.windowExpiry_eq, State.stream_handOffs]
    refine (floods_one _ _ ⟨(i, (s.route i).windowExpiry), (s.mem_flooding _).2 ⟨rfl, (floods_iff i).1 raises⟩, fed⟩).trans ?_
    cases k <;> rfl
  · have quiet : s.flooded = (s.windowsClosed, []) := by
      rw [State.flooded, State.flooding_none fun i raises => none i ((floods_iff i).2 raises)]
      rfl
    rw [isClosed, State.windowExpiry_eq, quiet]
    exact State.handOffs_idle _ [] nofun
  · have single := State.flooding_single ((floods_iff i).1 raises) fun j other => alone j ((floods_iff j).2 other)
    have one : s.flooded = floodEntry (s.windowsClosed, []) (i, (s.route i).windowExpiry) := by
      rw [State.flooded, single]
      rfl
    refine ⟨fun plain => ?_, fun k fed untrusted => ?_⟩
    · rw [isClosed, State.windowExpiry_eq, one, floodEntry_plain plain]
      exact State.handOffs_one _ _
    · have stands : s.windowsClosed.stream k = s.stream k := by cases k <;> rfl
      have flooded := floodEntry_untrusted (acc := (s.windowsClosed, [])) (x := (i, (s.route i).windowExpiry)) fed (by rwa [stands])
      have record : s.windowExpiry.stream k = (s.windowsClosed.stream k).flood := by
        rw [State.windowExpiry_eq, State.stream_handOffs, one, flooded, State.stream_setStream_same]
      rw [record, isClosed, State.windowExpiry_eq, one, flooded]
      exact State.handOffs_one _ _
  · have faults : s.flooded.1.faults = s.faults := floods_keep State.faults (by simp) _ _
    have silent : ∀ h ∈ s.flooded.2, ∀ b, h.told ≠ some (.streamFlood, b) := floods_silent _ (_, []) nofun
    have count : s.flooded.2.countP (HandOff.raises .streamFlood) = number :=
      (floods_raise _ (_, [])).trans ((Nat.zero_add _).trans s.flooding_length)
    rw [State.windowExpiry_eq, State.handOffs_occurrences (by rw [faults, classes]) silent, count, iterate_bump, faults]
  · have portA : s.flooded.1.portA = s.portA := floods_keep State.portA (by simp) _ _
    rw [← portA]
    exact State.handOffs_alerted _ _

end Sys2Proof.Proofs
end

section
/-! Accepted wheel frames, inertial samples and torque requests (R17, R24, R25, R31, R38, R39, R84 to R87). -/

namespace Sys2Proof.Machine

/-! ## The values and the record of an accepted frame -/

/-- An accepted frame carries the values at its positions, a torque request clamped (R14, R15). -/
theorem judge_accepts_values {c : Chassis} {k : StreamId} {r : StreamRecord} {e : RouteFields} {f : Frame} {v : Values} {sequenceError : Bool}
    (accepted : judge c k r e f = .accepted v sequenceError) : v = clampTorque c (valuesOf k f.data) := by
  have signals : ∀ b, judgeSignals c k r f.data b = .accepted v sequenceError → v = clampTorque c (valuesOf k f.data) := by
    intro b accepted
    unfold judgeSignals at accepted
    simp only at accepted
    split at accepted
    · exact nomatch accepted
    · cases accepted
      rfl
  unfold judge at accepted
  split at accepted
  · exact nomatch accepted
  · split at accepted
    · exact signals _ accepted
    · split at accepted
      · exact nomatch accepted
      · split at accepted
        · exact signals _ accepted
        · split at accepted
          · exact nomatch accepted
          · exact signals _ accepted

/-- An accepted wheel frame carries a speed. -/
theorem judge_accepts_speed {c : Chassis} {k : StreamId} (wheel : k = .wheelFront ∨ k = .wheelRear) {r : StreamRecord} {e : RouteFields}
    {f : Frame} {v : Values} {sequenceError : Bool} (accepted : judge c k r e f = .accepted v sequenceError) : ∃ x, v = .speed x := by
  rw [judge_accepts_values accepted]
  rcases wheel with rfl | rfl <;> exact ⟨_, rfl⟩

/-- Acceptance holds the values, whatever becomes of the state (R17, R20). -/
theorem StreamRecord.accept_latest (r : StreamRecord) (e : RouteFields) (v : Values) (alive : Alive) (stamp : Stamp) (sequenceError : Bool) :
    (r.accept e v alive stamp sequenceError).latest = some v := by
  rcases r.state.cases_trust with unseen | trusted | out
  · rw [StreamRecord.accept_unseen _ _ _ _ _ unseen]
    rfl
  · rw [StreamRecord.accept_trusted _ _ _ _ _ trusted, StreamRecord.acceptTrusted]
    split <;> rfl
  · rw [StreamRecord.accept_out _ _ _ _ _ out, StreamRecord.acceptRecovering]
    split
    · rfl
    · split <;> rfl

section
variable (s : State) (k : StreamId) (i : Nat) (e : RouteFields) (f : Frame) (v : Values) (sequenceError : Bool)

theorem State.recordAccepted_stream : (s.recordAccepted k i e f v sequenceError).stream k =
    (s.stream k).accept e v (aliveOf f.data) s.now sequenceError :=
  (State.stream_handOffs _ _ _).trans (State.stream_moveStream_same _ _ _ _)

theorem State.recordAccepted_stream_ne {j : StreamId} (other : j ≠ k) :
    (s.recordAccepted k i e f v sequenceError).stream j = s.stream j :=
  (State.stream_handOffs _ _ _).trans ((State.stream_moveStream_ne _ _ _ other).trans (State.stream_countRoute _ _ _ _))

theorem State.recordAccepted_routes : (s.recordAccepted k i e f v sequenceError).routes =
    (s.countRoute i (·.accept sequenceError v.isClamped)).routes := State.moveStream_routes ..

/-- The record of an accepted frame reaches none of the blocks that a moved stream leaves. -/
theorem State.recordAccepted_frame :
    (s.recordAccepted k i e f v sequenceError).forwarder = s.forwarder ∧ (s.recordAccepted k i e f v sequenceError).store = s.store ∧
      (s.recordAccepted k i e f v sequenceError).commands = s.commands ∧ (s.recordAccepted k i e f v sequenceError).now = s.now ∧
      (s.recordAccepted k i e f v sequenceError).portB = s.portB ∧
      (s.recordAccepted k i e f v sequenceError).eval.published = s.eval.published :=
  ⟨State.moveStream_forwarder .., State.moveStream_store .., State.moveStream_commands .., State.moveStream_now ..,
    State.moveStream_portB .., State.moveStream_eval_published ..⟩

/-- A record whose stream does not leave the trusted states is replaced, counted and told, and no other block sees it (R17, R23). -/
theorem State.recordAccepted_stays
    (stays : (s.stream k).state.trusted → ((s.stream k).accept e v (aliveOf f.data) s.now sequenceError).state.trusted) :
    ∃ portA faults draws, s.recordAccepted k i e f v sequenceError =
      { (s.countRoute i (·.accept sequenceError v.isClamped)).setStream k ((s.stream k).accept e v (aliveOf f.data) s.now sequenceError) with
        portA := portA, faults := faults, draws := draws } := by
  have moved : ((s.countRoute i (·.accept sequenceError v.isClamped)).moveStream k (.route i)
      ((s.stream k).accept e v (aliveOf f.data) s.now sequenceError)).1 = (s.countRoute i (·.accept sequenceError v.isClamped)).setStream k
      ((s.stream k).accept e v (aliveOf f.data) s.now sequenceError) := by
    rw [State.moveStream_fst, if_neg]
    rintro ⟨trusted, left⟩
    rw [State.stream_countRoute] at trusted
    exact nomatch left.symm.trans (stays trusted)
  unfold State.recordAccepted
  simp only [moved]
  exact ⟨_, _, _, rfl⟩

end

/-! ## The forwarded copy (R25) -/

/-- The forwarded copy of a consuming frame: the rewrite identifier, and the check byte of a protected entry for it. -/
theorem forwardedCopy_consuming {e : RouteFields} (consuming : (streamOf e.cls).isSome) (f : Frame) :
    forwardedCopy e f = ⟨e.rewrite.getD f.ident,
      if e.rewrite ≠ none ∧ e.isProtected then f.data.set 7 (checkByte (e.rewrite.getD f.ident) f.data) else f.data⟩ := by
  unfold forwardedCopy
  cases e.rewrite with
  | none => simp
  | some ident => by_cases guarded : e.isProtected = true <;> simp [guarded, consuming]

/-- An accepted frame's entry, counted as matched and accepted (R10, R17). -/
theorem State.route_recordAccepted {s : State} {i : Nat} (inside : i < s.routes.length) (p : PortId) (k : StreamId) (e : RouteFields)
    (f : Frame) (v : Values) (sequenceError : Bool) : ((s.admitted p i).recordAccepted k i e f v sequenceError).route i =
      { (s.route i).countAdmitted with counts := (s.route i).countAdmitted.counts.accept sequenceError v.isClamped } := by
  have admitted : (s.admitted p i).route i = (s.route i).countAdmitted :=
    (State.route_modifyRoute_same (s.delivered p) _ (by cases p <;> exact inside)).trans
      (congrArg RouteEntry.countAdmitted (by cases p <;> rfl))
  have stays : i < (s.admitted p i).routes.length := by
    have length : (s.admitted p i).routes.length = s.routes.length := by cases p <;> exact List.length_modify ..
    rwa [length]
  refine (congrArg (·.getD i freeEntry) (State.recordAccepted_routes ..)).trans ?_
  refine (State.route_modifyRoute_same (s.admitted p i) _ stays).trans ?_
  rw [admitted]

theorem State.route_recordAccepted_ne {s : State} {i j : Nat} (other : j ≠ i) (p : PortId) (k : StreamId) (e : RouteFields)
    (f : Frame) (v : Values) (sequenceError : Bool) : ((s.admitted p i).recordAccepted k i e f v sequenceError).route j = s.route j := by
  refine (congrArg (·.getD j freeEntry) (State.recordAccepted_routes ..)).trans ?_
  refine (State.route_modifyRoute_ne (s.admitted p i) _ other).trans ?_
  exact (State.route_modifyRoute_ne (s.delivered p) _ other).trans (by cases p <;> rfl)

section
variable (s : State) (i : Nat) (p : PortId) (e : RouteFields) (f : Frame)

/-- Forwarding reaches the entry's forwarded count and the ports alone (R25). -/
theorem State.forwardFrame_frame :
    ∃ routes portA portB, s.forwardFrame i p e f = { s with routes := routes, portA := portA, portB := portB } := by
  unfold State.forwardFrame
  cases p <;> cases e.forward <;> exact ⟨_, _, _, rfl⟩

/-- A forwarded copy is counted at its entry (R25). -/
theorem State.route_forwardFrame (j : Nat) : (s.forwardFrame i p e f).route j =
    if e.forward = .nowhere then s.route j else (s.countRoute i RouteCounts.forward).route j := by
  unfold State.forwardFrame
  cases e.forward with
  | nowhere => rfl
  | otherQ2 | otherQ0 => cases p <;> rfl

/-- Forwarding reaches the other port alone. -/
theorem State.forwardFrame_portB_of_b : (s.forwardFrame i .b e f).portB = s.portB := by
  unfold State.forwardFrame
  cases e.forward <;> rfl

/-- What arrives on Port A goes to Port B as the entry's forward field directs (R25). -/
theorem State.forwardFrame_portB_of_a : (s.forwardFrame i .a e f).portB = match e.forward with
    | .nowhere => s.portB
    | .otherQ2 => s.portB.offer .q2 (forwardedCopy e f)
    | .otherQ0 => s.portB.offer .q0 (forwardedCopy e f) := by
  unfold State.forwardFrame
  cases e.forward <;> rfl

end

end Sys2Proof.Machine

namespace Sys2Proof.Proofs
open Sys2Proof.Machine

/-- Settles O12: the record and its counts, no dispatch, and the copy that the forward field directs. -/
theorem wheelFrameAccepted : Obligations.WheelFrameAccepted := by
  unfold Obligations.WheelFrameAccepted
  intro s p f i k v sequenceError matched budget consuming wheel judged e
  obtain ⟨speed, rfl⟩ := judge_accepts_speed wheel judged
  have inside := (State.lookup_found matched.found).1
  have notTorque : k ≠ .torqueRequest := by rcases wheel with rfl | rfl <;> nofun
  have notInertial : k ≠ .inertial := by rcases wheel with rfl | rfl <;> nofun
  let recorded := (s.admitted p i).recordAccepted k i e f (.speed speed) sequenceError
  have accepted : (s.admitted p i).acceptFrame k i p e f (.speed speed) sequenceError = recorded.forwardFrame i p e f := if_neg notTorque
  obtain ⟨routes, portA, portB, frame⟩ := recorded.forwardFrame_frame i p e f
  obtain ⟨forwarder, store, commands, now, portBStands, published⟩ :=
    (s.admitted p i).recordAccepted_frame k i e f (.speed speed) sequenceError
  have entry := State.route_recordAccepted inside p k e f (.speed speed) sequenceError
  have others : ∀ j, j ≠ i → recorded.route j = s.route j := fun j other => State.route_recordAccepted_ne other ..
  have here : i < recorded.routes.length := State.lt_length_of_route (by
    rw [show recorded.route i = _ from entry]
    exact fun free => nomatch (State.lookup_found matched.found).2.1.symm.trans free)
  have streams : ∀ j, (recorded.forwardFrame i p e f).stream j = recorded.stream j := fun j => by
    rw [frame]
    cases j <;> rfl
  have estimate : recorded.lean = s.lean ∧ recorded.engine = s.engine := by
    obtain ⟨lean, engine⟩ := State.moveStream_other (s := (s.admitted p i).countRoute i (·.accept sequenceError false)) notInertial (.route i)
      (((s.admitted p i).stream k).accept e (.speed speed) (aliveOf f.data) (s.admitted p i).now sequenceError)
    exact ⟨lean.trans (s.admitted_lean p i), engine.trans (s.admitted_engine p i)⟩
  refine ⟨_, (exec_accepted matched budget consuming judged).trans (congrArg Host.Outcome.next accepted), ?_, fun j other => ?_, ?_, ?_,
    fun j other => ?_, fun onA => ?_, fun onB => ?_, ?_, ?_, ?_, ?_, ?_, ?_, ?_, ?_, ?_⟩
  · rw [streams, State.recordAccepted_stream, State.stream_admitted, State.admitted_now, aliveOf_eq]
  · rw [streams, State.recordAccepted_stream_ne _ _ _ _ _ _ _ other, State.stream_admitted]
  · rw [State.route_forwardFrame, State.countRoute, State.route_modifyRoute_same _ _ here, entry]
    split <;> rfl
  · rw [State.route_forwardFrame, State.countRoute, State.route_modifyRoute_same _ _ here, entry]
    by_cases nowhere : e.forward = .nowhere
    · rw [if_pos nowhere, if_pos nowhere]
      rfl
    · rw [if_neg nowhere, if_neg nowhere]
      rfl
  · rw [State.route_forwardFrame, State.countRoute, State.route_modifyRoute_ne _ _ other, others j other, ite_self]
  · subst onA
    intro id data
    rw [State.forwardFrame_portB_of_a, forwardedCopy_consuming (by rw [consuming]; rfl), show recorded.portB = _ from portBStands]
    rfl
  · subst onB
    exact State.forwardFrame_portB_of_b .. |>.trans portBStands
  · exact (congrArg (·.lean.queue) frame).trans (congrArg LeanState.queue estimate.1)
  · exact (congrArg (·.engine.running) frame).trans (congrArg Engine.running estimate.2)
  · exact (congrArg (·.engine.ceilingPending) frame).trans (congrArg Engine.ceilingPending estimate.2)
  · exact (congrArg State.forwarder frame).trans (forwarder.trans (s.admitted_forwarder p i))
  · exact (congrArg State.store frame).trans (store.trans (s.admitted_store p i))
  · exact (congrArg State.commands frame).trans (commands.trans (s.admitted_commands p i))
  · exact (congrArg State.now frame).trans (now.trans (s.admitted_now p i))
  · exact (congrArg (·.eval.published) frame).trans (published.trans (congrArg (·.published) (s.admitted_eval p i)))
  · exact (congrArg (·.lean.lean) frame).trans (congrArg LeanState.lean estimate.1)

end Sys2Proof.Proofs
end

section
/-! An accepted torque request in the hold slot, and an accepted inertial sample in its queue (R24, R30, R31, R38, R39, R84 to R87). -/

namespace Sys2Proof.Machine

/-! ## The ask for a CEILING job (R30) -/

/-- An ask for a CEILING job reaches the engine and governor control's decision, and no waiting sample (R30, R33). -/
theorem State.askCeiling_frame (s : State) :
    ∃ engine governor, s.askCeiling = { s with engine := engine, governor := governor } ∧ governor.state = s.governor.state := by
  rcases s.askCeiling_cases with ⟨absorbed, -⟩ | ⟨-, -, asked⟩
  · exact ⟨s.engine, s.governor, absorbed, rfl⟩
  · by_cases idle : s.engine.running = none
    · exact ⟨_, _, asked.trans (State.choose_ceiling idle rfl), rfl⟩
    · exact ⟨_, _, asked.trans (State.choose_busy idle), rfl⟩

/-- An ask that is served already leaves the state as it is (R30). -/
theorem State.askCeiling_absorbed {s : State} (served : s.engine.ceilingPending ∨ s.engine.ceilingRunning) : s.askCeiling = s := by
  rcases s.askCeiling_cases with ⟨absorbed, -⟩ | ⟨unasked, notRunning, -⟩
  · exact absorbed
  · simp [unasked, notRunning] at served

/-- An idle engine that nothing is asked of starts the CEILING job at once (R30, R33). -/
theorem State.askCeiling_idle {s : State} (idle : s.engine.running = none) (unasked : s.engine.ceilingPending = false) :
    s.askCeiling = ({ s with engine := { s.engine with ceilingPending := true } } : State).startCeiling := by
  rcases s.askCeiling_cases with ⟨-, pending | running⟩ | ⟨-, -, asked⟩
  · exact nomatch unasked.symm.trans pending
  · simp [Engine.ceilingRunning, idle] at running
  · exact asked.trans (State.choose_ceiling idle rfl)

/-- The forwarder with a request entered into its slot, as R84, R86 and R87 say. -/
theorem Forwarder.enter_eq (f : Forwarder) (h : HeldRequest) : f.enter h = { f with
    slot := some h
    holdTimer := some 0
    counts := { f.counts with
      entered := bump f.counts.entered
      superseded := if f.slot = none then f.counts.superseded else bump f.counts.superseded } } := by
  cases slot : f.slot <;> simp [Forwarder.enter, bumpIf, slot]

/-- The record of an accepted torque request is kept, counted and told to the fault unit; no other block sees it (R17, R23). -/
theorem State.recordAccepted_torqueRequest (s : State) (i : Nat) (e : RouteFields) (f : Frame) (v : Values) (sequenceError : Bool) :
    ∃ portA faults draws, s.recordAccepted .torqueRequest i e f v sequenceError = { s with
      routes := (s.countRoute i (·.accept sequenceError v.isClamped)).routes, portA := portA, faults := faults, draws := draws
      torqueRequest := s.torqueRequest.accept e v (aliveOf f.data) s.now sequenceError } := by
  simp only [State.recordAccepted, State.moveStream_bystander (.inl rfl)]
  exact ⟨_, _, _, rfl⟩

/-- An accepted torque request enters the hold slot, with the time of its record, and is not forwarded (R24, R25). -/
theorem State.acceptFrame_torque (s : State) (i : Nat) (p : PortId) (e : RouteFields) (f : Frame) (torque : Nat)
    (clamped sequenceError : Bool) {r : State} (recorded : s.recordAccepted .torqueRequest i e f (.torque torque clamped) sequenceError = r) :
    s.acceptFrame .torqueRequest i p e f (.torque torque clamped) sequenceError =
      r.enterRequest (heldRequest i e f.ident torque clamped r.now) := by
  rw [State.acceptFrame, recorded]
  exact if_pos rfl

end Sys2Proof.Machine

namespace Sys2Proof.Proofs
open Sys2Proof.Machine

/-- Settles O14: the request enters the slot of a state that only its own record has changed, and the ask for its job is absorbed or
reaches the engine. -/
theorem torqueRequestEntersSlot : Obligations.TorqueRequestEntersSlot := by
  unfold Obligations.TorqueRequestEntersSlot
  intro s p f i torque clamped seq matched budget cls judged
  have done := exec_accepted (k := .torqueRequest) matched budget (by rw [cls]; rfl) judged
  have entry := State.route_recordAccepted (State.lookup_found matched.found).1 p .torqueRequest (s.route i).fields f
    (.torque torque clamped) seq
  obtain ⟨portA, faults, draws, recorded⟩ :=
    (s.admitted p i).recordAccepted_torqueRequest i (s.route i).fields f (.torque torque clamped) seq
  let r := (s.admitted p i).recordAccepted .torqueRequest i (s.route i).fields f (.torque torque clamped) seq
  let entered : State := { r with
    forwarder := r.forwarder.enter (heldRequest i (s.route i).fields f.ident torque clamped r.now) }
  have answered : exec (.receivedFrame p f) s = .next entered.askCeiling :=
    done.trans (congrArg Host.Outcome.next (State.acceptFrame_torque _ i p _ f torque clamped seq rfl))
  have engine : entered.engine = s.engine := (congrArg State.engine recorded).trans (s.admitted_engine p i)
  have now : r.now = s.now := (congrArg State.now recorded).trans (s.admitted_now p i)
  have forwarder : r.forwarder = s.forwarder := (congrArg State.forwarder recorded).trans (s.admitted_forwarder p i)
  have record : r.torqueRequest = (s.admitted p i).torqueRequest.accept (s.route i).fields (.torque torque clamped) (aliveOf f.data)
      (s.admitted p i).now seq := congrArg State.torqueRequest recorded
  obtain ⟨newEngine, governor, asked, state⟩ := entered.askCeiling_frame
  refine ⟨_, answered, ?slot, entered.askCeiling_served, fun served => ?absorbed, fun idle unasked => ?started, ?record, ?clamped, ?portB,
    ?eval, ?lean, ?store, ?governor⟩
  case slot =>
    refine (congrArg State.forwarder asked).trans ((Forwarder.enter_eq _ _).trans ?_)
    rw [forwarder, now]
    rfl
  case absorbed =>
    rw [← engine] at served
    rw [State.askCeiling_absorbed served, engine]
  case started =>
    rw [State.askCeiling_idle (engine ▸ idle) (engine ▸ unasked)]
    exact ⟨_, rfl, rfl⟩
  case record =>
    refine (congrArg State.torqueRequest asked).trans (record.trans ?_)
    rw [State.admitted_torqueRequest, State.admitted_now, aliveOf_eq]
  case clamped =>
    rw [asked]
    exact congrArg (·.counts.clamped) entry
  case portB =>
    rw [asked]
    refine (congrArg State.portB recorded).trans ?_
    cases p <;> rfl
  case eval => exact (congrArg State.eval asked).trans ((congrArg State.eval recorded).trans (s.admitted_eval p i))
  case lean => exact (congrArg State.lean asked).trans ((congrArg State.lean recorded).trans (s.admitted_lean p i))
  case store => exact (congrArg State.store asked).trans ((congrArg State.store recorded).trans (s.admitted_store p i))
  case governor =>
    rw [asked]
    exact state.trans (congrArg (·.governor.state) recorded |>.trans (congrArg (·.state) (s.admitted_governor p i)))

end Sys2Proof.Proofs
end

section
/-! An accepted inertial sample in its queue and at an idle engine (R24, R31, R38, R39). -/

namespace Sys2Proof.Machine

/-! ## Room for a sample (R39) -/

/-- A queue with room is left as it is (R39). -/
theorem State.makeRoom_room {s : State} (room : s.lean.queue.length < 4) : s.makeRoom = s := if_neg (Nat.not_le.mpr room)

/-- A full queue loses its oldest sample, which is counted and told to the fault unit (R39). -/
theorem State.makeRoom_full {s : State} (full : 4 ≤ s.lean.queue.length) :
    ∃ portA faults, s.makeRoom = { s with
      portA := portA, faults := faults
      lean := { s.lean with
        queue := s.lean.queue.tail
        counts := { s.lean.counts with overrun := bump s.lean.counts.overrun } } } := by
  cases queue : s.lean.queue with
  | nil => simp [queue] at full
  | cons oldest rest => exact ⟨_, _, (if_pos full).trans (by rw [queue]; rfl)⟩

/-- Room for a sample costs the queue, the overrun count and what the fault unit is told (R39). -/
theorem State.makeRoom_leaves (s : State) :
    ∃ queue overrun portA faults, s.makeRoom = { s with
      portA := portA, faults := faults
      lean := { s.lean with queue := queue, counts := { s.lean.counts with overrun := overrun } } } := by
  by_cases room : s.lean.queue.length < 4
  · exact ⟨_, _, _, _, State.makeRoom_room room⟩
  · obtain ⟨portA, faults, full⟩ := State.makeRoom_full (Nat.not_lt.mp room)
    exact ⟨_, _, portA, faults, full⟩

/-! ## The sample at the engine (R31, R38) -/

/-- A sample that joins is counted; the estimate, its stream and the other blocks stand (R38). -/
theorem State.joinSample_frame (s : State) (x : Sample) :
    (s.joinSample x).inertial = s.inertial ∧ (s.joinSample x).forwarder = s.forwarder ∧ (s.joinSample x).store = s.store ∧
      (s.joinSample x).eval = s.eval ∧ (s.joinSample x).lean.lean = s.lean.lean ∧
      (s.joinSample x).lean.counts.queued = bump s.lean.counts.queued := by
  obtain ⟨queue, overrun, portA, faults, room⟩ := s.makeRoom_leaves
  simp [State.joinSample, State.afterAsk, room, State.appendSample]

/-- At a busy engine a sample waits (R38). -/
theorem State.joinSample_busy {s : State} (busy : s.engine.running ≠ none) (x : Sample) :
    s.joinSample x = s.makeRoom.appendSample x := by
  obtain ⟨engine, -⟩ := s.makeRoom_frame
  refine State.choose_busy ?_
  rwa [show (s.makeRoom.appendSample x).engine = s.engine from engine]

/-- An idle engine with nothing pending takes the sample at once (R31, R33). -/
theorem State.joinSample_idle {s : State} (idle : s.engine.running = none) (unasked : s.engine.ceilingPending = false)
    (empty : s.lean.queue = []) (x : Sample) : s.joinSample x = (s.appendSample x).startLean x [] := by
  rw [State.joinSample, State.makeRoom_room (by simp [empty])]
  exact State.choose_lean idle unasked (by simp [State.appendSample, empty])

/-! ## The accepted frame -/

/-- An accepted inertial frame whose stream is FRESH after it joins its sample, taken at the time of its record, and is forwarded (R24,
R25). -/
theorem State.acceptFrame_inertial (s : State) (i : Nat) (p : PortId) (e : RouteFields) (f : Frame) (roll yaw lateral : Int)
    (sequenceError : Bool) {r : State} (recorded : s.recordAccepted .inertial i e f (.inertial roll yaw lateral) sequenceError = r)
    (fresh : r.inertial.state = .fresh) :
    s.acceptFrame .inertial i p e f (.inertial roll yaw lateral) sequenceError =
      (r.joinSample ⟨roll, yaw, lateral, r.now⟩).forwardConsumed .inertial i p e f := by
  rw [State.acceptFrame, recorded]
  exact congrArg (State.forwardConsumed · .inertial i p e f) (if_pos fresh)

end Sys2Proof.Machine

namespace Sys2Proof.Proofs
open Sys2Proof.Machine

/-- Settles O13: a stream that is FRESH after the frame has not been lost by it, so the record moves alone; the sample then joins the
queue or is taken. -/
theorem inertialSampleJoins : Obligations.InertialSampleJoins := by
  unfold Obligations.InertialSampleJoins
  intro s p f i roll yaw lateral seq matched budget cls judged fresh x
  have done := exec_accepted (k := .inertial) matched budget (by rw [cls]; rfl) judged
  have record : ((s.admitted p i).stream .inertial).accept (s.route i).fields (.inertial roll yaw lateral) (aliveOf f.data)
      (s.admitted p i).now seq =
      s.inertial.accept (s.route i).fields (.inertial roll yaw lateral) ((dataByte f.data 6).setWidth 4) s.now seq := by
    rw [State.stream_admitted, State.admitted_now, aliveOf_eq]
    rfl
  obtain ⟨portA, faults, draws, recorded⟩ := (s.admitted p i).recordAccepted_stays .inertial i (s.route i).fields f
    (.inertial roll yaw lateral) seq (fun _ => by rw [record, fresh]; rfl)
  rw [record] at recorded
  let r := (s.admitted p i).recordAccepted .inertial i (s.route i).fields f (.inertial roll yaw lateral) seq
  have inertial : r.inertial = _ := congrArg State.inertial recorded
  have engine : r.engine = s.engine := (congrArg State.engine recorded).trans (s.admitted_engine p i)
  have lean : r.lean = s.lean := (congrArg State.lean recorded).trans (s.admitted_lean p i)
  have now : r.now = s.now := (congrArg State.now recorded).trans (s.admitted_now p i)
  have sample : (⟨roll, yaw, lateral, r.now⟩ : Sample) = x := by rw [now]
  rw [State.acceptFrame_inertial _ i p _ f roll yaw lateral seq rfl (inertial ▸ fresh), sample] at done
  obtain ⟨routes, portA, portB, forwarded⟩ := (r.joinSample x).forwardConsumed_frame .inertial i p (s.route i).fields f
  rw [forwarded] at done
  obtain ⟨stream, forwarder, store, eval, estimate, queued⟩ := r.joinSample_frame x
  refine ⟨_, done, ?state, ?latest, ?queued, ?forwarder, ?store, ?eval, ?lean, fun busy room => ?joins, fun busy full => ?overruns,
    fun idle unasked empty => ?taken⟩
  case state => exact (congrArg StreamRecord.state (stream.trans inertial)).trans fresh
  case latest => exact (congrArg StreamRecord.latest (stream.trans inertial)).trans (StreamRecord.accept_latest ..)
  case queued => rw [← lean]; exact queued
  case forwarder => exact forwarder.trans ((congrArg State.forwarder recorded).trans (s.admitted_forwarder p i))
  case store => exact store.trans ((congrArg State.store recorded).trans (s.admitted_store p i))
  case eval => exact eval.trans ((congrArg State.eval recorded).trans (s.admitted_eval p i))
  case lean => rw [← lean]; exact estimate
  case joins =>
    rw [← lean] at room ⊢
    rw [← engine] at busy ⊢
    simp only [State.joinSample_busy busy, State.makeRoom_room room]
    exact ⟨rfl, rfl, rfl⟩
  case overruns =>
    rw [← lean] at full ⊢
    rw [← engine] at busy ⊢
    obtain ⟨portA, faults, lost⟩ := State.makeRoom_full full
    simp only [State.joinSample_busy busy, lost]
    exact ⟨rfl, rfl, rfl⟩
  case taken =>
    rw [← lean] at empty ⊢
    rw [← engine] at idle unasked
    simp only [State.joinSample_idle idle unasked empty]
    exact ⟨rfl, _, rfl, rfl, rfl, rfl, rfl⟩

end Sys2Proof.Proofs
end
